-- ==== Sys2Proof/Word.lean ====
section
/-!
DEFINITION. The word types of the JY24: a byte of collation memory, a 32-bit register word, and the index
types of the numbered tables (R1, R90, R115, R123). Nothing here is arithmetic: byte order and bit fields stand in
Machine/Operands.lean.
-/

namespace Sys2Proof

/-- One byte of collation memory. -/
abbrev Byte := BitVec 8

/-- One 32-bit register or memory word. -/
abbrev Word := BitVec 32

/-- A lane number, 0..15 (R123). -/
abbrev LaneId := Fin 16

/-- A wafer context index, 0..23 (R1). -/
abbrev CtxId := Fin 24

/-- A Recipe Cache entry index, 0..7 (R90). -/
abbrev EntryId := Fin 8

/-- A Lot Table entry index, 0..7 (R115). -/
abbrev LotId := Fin 8

/-- A probe site, 0..15 (R31). -/
abbrev SiteId := Fin 16

/-- A map bin code, 0..63 (R15). -/
abbrev BinCode := Fin 64

/-- A map row number, 0..511 (R17). -/
abbrev RowId := Fin 512

end Sys2Proof
end

