-- ==== Sys2Proof/Syntax.lean ====
section
/-!
DEFINITION. The commands of the JY24, whole: one constructor per row of spec/opcode_table.json. A command is a host access,
a timer event, or the completion of one of the part's own memory operations. Operands that a constructor carries are
what the host writes, which table entry the event belongs to, and what the outside decides about a memory operation: an
uncorrectable read error, what of the writes in flight had landed when a reset or a fault stopped them, or which
bytes a load's read took before a write replaced them.
-/

namespace Sys2Proof

/-- How a read whose error faults the whole engine ended (R151). `uncorrectable landed` is an uncorrectable error;
`landed` lists the bytes, each with its offset, that the part's writes then in flight had left when the fault stopped them
("A memory write in flight stops where it stands", R151), in the order they landed; a byte of a hand-over word may have taken
part of its new bits (assumption log 7). -/
inductive ReadEnd where
  | returned
  | uncorrectable (landed : List Host.Cell)
  deriving DecidableEq, Repr

/-- The commands of the block, one constructor per row of the table, in the table's order. -/
inductive Instr where
  /-- POWER_ON_RESET (R154). `dram` lists what the DRAM holds after power-on where that differs from before. -/
  | powerOnReset (dram : List Host.Cell)
  /-- PORT_RESET (R155). `landed`: the bytes that the writes in flight had left, in order (Table 8-5). -/
  | portReset (landed : List Host.Cell)
  /-- RUN (R144): a CONTROL write that selects the RUN field, with the value written. -/
  | run (value : Bool)
  /-- SCAN_NOW (R127). -/
  | scanNow
  /-- CLEAR (R152). `landed`: as for `portReset`, for a trend writeback in flight in STOPPED. -/
  | clear (landed : List Host.Cell)
  /-- FLUSH_RECIPES (R100). -/
  | flushRecipes
  /-- INTERRUPT_ENABLES (R162): bit 0 HANDBACK, 1 CLOSE, 2 ALARM, 3 FAULT, 4 ENGINE (CONTROL bits 4..8). -/
  | interruptEnables (mask value : BitVec 5)
  /-- INTERRUPT_MODE (R163): true selects EACH, false EDGE. -/
  | interruptMode (each : Bool)
  /-- COMMON_BASE (R153): a write of the register. -/
  | commonBase (value : Word)
  /-- ENABLE (R139). -/
  | enable (lane : LaneId)
  /-- DISABLE (R140). -/
  | disable (lane : LaneId)
  /-- HOLD (R140). -/
  | hold (lane : LaneId)
  /-- RELEASE (R140). -/
  | release (lane : LaneId)
  /-- RETIRE (R141). -/
  | retire (lane : LaneId)
  /-- BAD_COMMAND (R138): a LANE_COMMAND write whose code names none of the five commands. -/
  | badCommand (code : BitVec 3) (lane : LaneId)
  /-- NOTICE_CLEAR (R161): `hi` selects NOTICE_HI; `bits` is the value written. -/
  | noticeClear (hi : Bool) (bits : Word)
  /-- ENGINE_STATE_READ (R164): a read of `bytes` bytes of the register from byte `first` (R156). -/
  | engineStateRead (first : Fin 4) (bytes : Nat)
  /-- PROBE_READ (R165): a PROBE_ADDR write with DIR 0. -/
  | probeRead (word : BitVec 11) (index : BitVec 5) (region : BitVec 3)
  /-- PROBE_WRITE (R165): a PROBE_ADDR write with DIR 1. -/
  | probeWrite (word : BitVec 11) (index : BitVec 5) (region : BitVec 3)
  /-- REGISTER_WRITE (R156): a write of `bytes` bytes at a register window offset. -/
  | registerWrite (offset : Nat) (bytes : Nat) (value : Word)
  /-- PROBE_READ_ANSWER (R166). -/
  | probeReadAnswer
  /-- PROBE_WRITE_STORE (R167). -/
  | probeWriteStore
  /-- SCAN_TIMER_EXPIRY (R127). -/
  | scanTimerExpiry
  /-- SECOND_EVENT (R77). -/
  | secondEvent
  /-- IDLE_EXPIRY of context k (R78, R79). -/
  | idleExpiry (k : CtxId)
  /-- LOOK (R129): the read of lane l's look completes; `bad` is an uncorrectable read error. -/
  | look (l : LaneId) (bad : Bool)
  /-- LOOK_RETURN_WRITTEN (R129). -/
  | lookReturnWritten (l : LaneId)
  /-- SUMMARY_SLOT_READ (R121). -/
  | summarySlotRead (k : CtxId) (r : ReadEnd)
  /-- LOT_SLOT_READ (R121). -/
  | lotSlotRead (i : LotId) (r : ReadEnd)
  /-- GRANT (R131). -/
  | grant
  /-- OPEN (R104): the record read of a granted OPEN record completes. -/
  | openRecord
  /-- TOUCHDOWN (R31). -/
  | touchdown
  /-- ADJUST (R45). -/
  | adjust
  /-- CLOSE (R108). -/
  | close
  /-- LOT_END (R109). -/
  | lotEnd
  /-- NOP (R25). -/
  | nop
  /-- BAD_KIND (R25). -/
  | badKind
  /-- RECORD_READ_ERROR (R133). -/
  | recordReadError
  /-- ROW_WRITEBACK_DONE (R20). -/
  | rowWritebackDone
  /-- ROW_FETCH_DONE (R20, R21). -/
  | rowFetchDone (r : ReadEnd)
  /-- SITE_WORD_WRITTEN (R26). -/
  | siteWordWritten
  /-- DISPOSITION_WRITTEN (R26). -/
  | dispositionWritten
  /-- HANDOVER_LIVE_WRITTEN (R107). -/
  | handoverLiveWritten
  /-- LIVE_GEN_ODD_WRITTEN for context k (R118). -/
  | liveGenOddWritten (k : CtxId)
  /-- LIVE_CONTENTS_WRITTEN for context k (R118). -/
  | liveContentsWritten (k : CtxId)
  /-- LIVE_BLOCK_WRITTEN for context k (R118). -/
  | liveBlockWritten (k : CtxId)
  /-- HALF_RETURN_WRITTEN for lane l (R135). -/
  | halfReturnWritten (l : LaneId)
  /-- RETIRE_CARRY_OUT (R141). -/
  | retireCarryOut
  /-- SKIPPED_WRITTEN (R141). -/
  | skippedWritten
  /-- RETIRE_RETURN_WRITTEN (R141). -/
  | retireReturnWritten
  /-- RECIPE_LOAD_DONE of entry e (R94, R96). `early` lists the entry bytes (offset 0..4095 and value) that the read
  took before a write that landed during the load replaced them (R93; assumption log 8). -/
  | recipeLoadDone (e : EntryId) (early : List Host.Cell) (r : ReadEnd)
  /-- TREND_WRITEBACK_DONE of entry e (R101). -/
  | trendWritebackDone (e : EntryId)
  /-- CLOSE_WINDOW_WRITTEN (R112). -/
  | closeWindowWritten
  /-- MATERIALIZE_ROW_WRITTEN (R112). -/
  | materializeRowWritten
  /-- SUMMARY_WRITTEN (R119). -/
  | summaryWritten
  /-- POSTED_WRITTEN (R113). -/
  | postedWritten
  /-- LOT_SUMMARY_WRITTEN (R114). -/
  | lotSummaryWritten
  /-- LOT_POSTED_WRITTEN (R114). -/
  | lotPostedWritten
  /-- DRAIN_WINDOW_WRITTEN for context k (R22). -/
  | drainWindowWritten (k : CtxId)
  /-- DRAIN_END (R149). -/
  | drainEnd
  /-- COMMON_HEADER_READ (R145). -/
  | commonHeaderRead (bad : Bool)
  /-- COLD_DESCRIPTOR_READ (R146). -/
  | coldDescriptorRead (bad : Bool)
  /-- ENABLE_DESCRIPTOR_READ (R139). -/
  | enableDescriptorRead (bad : Bool)
  /-- INTERRUPT_MESSAGE_SENT (R163). -/
  | interruptMessageSent
  /-- HALF_FAULTED_RETURN_WRITTEN (R133). -/
  | halfFaultedReturnWritten
  /-- MEMORY_WINDOW_WRITE (R126): the host writes `data` at offset `addr` of collation memory. -/
  | memoryWindowWrite (addr : Word) (data : List Byte)
  deriving DecidableEq, Repr

end Sys2Proof
end

