-- ==== Sys2Proof/Machine/State.lean ====
section
/-!
DEFINITION. The state of the JY24, as plain data: every register, table, buffer, queue and flag the spec names, what each
memory operation in flight is doing (R149 "memory operation of any block in flight"), collation memory, and the queue of
commands that wait. `State.reset` is the part after power-on reset.
-/

namespace Sys2Proof.Machine

/-! ### Map cells and rows -/

/-- State of a map cell (R15); codes 0..3 in this order (R171). -/
inductive CellState where
  | outside | empty | binned | adjusted
  deriving DecidableEq, Repr

/-- A map cell (R15): state, standing map bin code, touches 0..3, site. -/
structure MapCell where
  state   : CellState
  code    : BinCode
  touches : Fin 4
  site    : SiteId
  deriving DecidableEq, Repr

/-! ### Recipes -/

/-- Retest policy (R36): LAST 0, BEST 1, PASS_STICKY 2 (R171). -/
inductive Policy where
  | last | best | passSticky
  deriving DecidableEq, Repr, Inhabited

/-- One fold range (R33): soft bins `lo`..`hi` give `code`. -/
structure FoldRange where
  lo   : Nat
  hi   : Nat
  code : BinCode
  deriving DecidableEq, Repr

/-- The attributes of one map bin code (R87): class PASS or FAIL, rank 0..63, limit in bp. -/
structure BinAttr where
  pass  : Bool
  rank  : Nat
  limit : Nat
  deriving DecidableEq, Repr, Inhabited

/-- The seven monitor kinds (R64), in the order of their mask bits (R171). -/
inductive MonitorKind where
  | yieldFloor | binLimit | siteRun | siteGap | idle | trendLow | lotFloor
  deriving DecidableEq, Repr

/-- One flag per monitor kind (R65): an assertion, deassertion or hold mask. -/
structure Mask where
  yieldFloor : Bool
  binLimit   : Bool
  siteRun    : Bool
  siteGap    : Bool
  idle       : Bool
  trendLow   : Bool
  lotFloor   : Bool
  deriving DecidableEq, Repr, Inhabited

/-- The validated copy of a recipe table entry (Table 5-1, after R88 and R89). Extents hold one entry per row
0..rows−1 (`none` is the empty marker), `folds` one per range 0..fold count−1, `offsets` one per site 0..site count−1. -/
structure Recipe where
  valid       : Bool
  cols        : Nat
  rows        : Nat
  extents     : List (Option (Nat × Nat))
  folds       : List FoldRange
  stray       : BinCode
  bins        : Vector BinAttr 64
  policy      : Policy
  siteCount   : Nat
  offsets     : List (Int × Int)
  minSample   : Nat
  floor       : Nat
  floorHyst   : Nat
  binHyst     : Nat
  runLimit    : Nat
  gapLimit    : Nat
  gapHyst     : Nat
  idleLimit   : Nat
  autoclose   : Bool
  guarded     : Bool
  weight      : Nat
  warmup      : Nat
  margin      : Nat
  lotFloor    : Nat
  assertMask  : Mask
  releaseMask : Mask
  holdMask    : Mask
  trendE      : Int
  trendCount  : Nat
  deriving DecidableEq, Repr, Inhabited

def Mask.none : Mask := ⟨false, false, false, false, false, false, false⟩

/-- The copy after power-on reset, port reset or CLEAR: all fields 0 (Table 5-3). -/
def Recipe.zero : Recipe where
  valid := false
  cols := 0
  rows := 0
  extents := []
  folds := []
  stray := 0
  bins := Vector.replicate 64 ⟨false, 0, 0⟩
  policy := .last
  siteCount := 0
  offsets := []
  minSample := 0
  floor := 0
  floorHyst := 0
  binHyst := 0
  runLimit := 0
  gapLimit := 0
  gapHyst := 0
  idleLimit := 0
  autoclose := false
  guarded := false
  weight := 0
  warmup := 0
  margin := 0
  lotFloor := 0
  assertMask := Mask.none
  releaseMask := Mask.none
  holdMask := Mask.none
  trendE := 0
  trendCount := 0

/-! ### Collation memory -/

/-- Collation memory (0.2, R169): the bytes that differ from what an unlisted address reads as, by rising offset. -/
abbrev Mem := List Host.Cell

/-! ### Wafer contexts -/

/-- Context states (R6), in the order of Table 1-1. -/
inductive CtxState where
  | free | opened | closing | closed
  deriving DecidableEq, Repr

/-- Close cause (R8): none 0, RECORD 1, IDLE 2, RETIRED 3 (R173). -/
inductive CloseCause where
  | none | record | idle | retired
  deriving DecidableEq, Repr

/-- A monitor set (R66). The trend flag is used by the latched set alone. -/
structure MonitorSet where
  floor : Bool
  gap   : Bool
  idle  : Bool
  trend : Bool
  bins  : Vector Bool 64
  sites : Vector Bool 16
  deriving DecidableEq, Repr

def MonitorSet.none : MonitorSet where
  floor := false
  gap := false
  idle := false
  trend := false
  bins := Vector.replicate 64 false
  sites := Vector.replicate 16 false

/-- What waits for a live block rewrite to complete: the merge of the record in merge (R73, R107, R108), the return of a
lane's half (R135), the trend step of the close item (R112), or nothing (R78, R79, R141). -/
inductive RewriteFor where
  | merge
  | halfReturn (l : LaneId)
  | closeStep
  | nothing
  deriving DecidableEq, Repr

/-- One write job into a summary slot; jobs of one slot are made one at a time, first in, first out (R118). -/
inductive SlotJob where
  | rewrite (why : RewriteFor)
  | summary
  | posted
  deriving DecidableEq, Repr

/-- The write of the head job that is in flight. A rewrite carries its contents, taken when it began (R118). -/
inductive SlotPhase where
  | genOdd (contents : List Byte)
  | contents (contents : List Byte)
  | genEven
  | summary
  | posted
  deriving DecidableEq, Repr

/-- A wafer context (Table 1-1), and after the line of dashes the model's account of its memory operations. -/
structure Ctx where
  state        : CtxState
  lane         : LaneId
  bound        : Bool
  lot          : LotId
  recipeNumber : Nat
  entry        : EntryId
  tag          : Word
  lastTouch    : Word
  firstTouch   : Option Word
  bins         : Vector Int 64
  tested       : Nat
  good         : Int
  touches      : Nat
  retests      : Nat
  siteTested   : Vector Nat 16
  sitePass     : Vector Nat 16
  run          : Vector Nat 16
  active       : MonitorSet
  latched      : MonitorSet
  idleCount    : Nat
  idleLimit    : Nat
  inMerge      : Bool
  cause        : CloseCause
  generation   : Word
  winRow       : Option RowId
  dirty        : Bool
  cells        : List MapCell
  rowsDone     : Vector Bool 512
  -- ----
  /-- The idle timer has expired at a second event and the expiry is not yet taken (R77). -/
  idleDue      : Bool
  /-- Write jobs of the context's summary slot, head first (R118). -/
  jobs         : List SlotJob
  /-- The write in flight for the head job. -/
  slotPhase    : Option SlotPhase
  /-- A drain's writeback of the window is in flight (R22). -/
  drainWrite   : Bool
  deriving DecidableEq, Repr

/-- A context after power-on reset, port reset or CLEAR (Table 1-1). -/
def Ctx.reset : Ctx where
  state := .free
  lane := 0
  bound := false
  lot := 0
  recipeNumber := 0
  entry := 0
  tag := 0
  lastTouch := 0
  firstTouch := none
  bins := Vector.replicate 64 0
  tested := 0
  good := 0
  touches := 0
  retests := 0
  siteTested := Vector.replicate 16 0
  sitePass := Vector.replicate 16 0
  run := Vector.replicate 16 0
  active := MonitorSet.none
  latched := MonitorSet.none
  idleCount := 0
  idleLimit := 0
  inMerge := false
  cause := .none
  generation := 0
  winRow := none
  dirty := false
  cells := []
  rowsDone := Vector.replicate 512 false
  idleDue := false
  jobs := []
  slotPhase := none
  drainWrite := false

/-! ### Lanes -/

/-- Intake states (R124), in the order of Table 7-1. -/
inductive LaneState where
  | disabled | idle | ready | loading | waitContext | waitRecipe | faulted
  deriving DecidableEq, Repr

/-- The two halves of a lane (R125). -/
inductive Half where
  | a | b
  deriving DecidableEq, Repr

/-- Lane fault causes (R142), in the order of Table 7-1. -/
inductive LaneFault where
  | none | badDescriptor | badHandover | badCount | memLane
  deriving DecidableEq, Repr

/-- The in-service half (Table 7-1): which half, the next record index and the count. -/
structure InService where
  half  : Half
  next  : Nat
  count : Nat
  deriving DecidableEq, Repr

/-- What a look in flight is doing: its read, or the RETURNED write with which it answers an unusable count (R129). -/
inductive LookPhase where
  | reading
  | answerEmpty
  | answerBadCount
  deriving DecidableEq, Repr

/-- A look in flight (R129): the half looked at and the offset of its hand-over word, whether a scan pass made it, and
whether its lane has left IDLE since it was issued, so that it takes none of its action (R130). -/
structure Look where
  half     : Half
  addr     : Nat
  fromPass : Bool
  void     : Bool
  phase    : LookPhase
  deriving DecidableEq, Repr

/-- The return of a half whose last record is disposed (R135): its RETURNED write, or the live block rewrite after it. -/
inductive HalfReturn where
  | none | writing | rewriting
  deriving DecidableEq, Repr

/-- A Lane Table entry (Table 7-1). `look` is the look-in-flight flag and what the look is doing; `ret` is the model's
account of a half return in flight (R135). -/
structure Lane where
  state     : LaneState
  hold      : Bool
  expected  : Half
  inService : Option InService
  look      : Option Look
  ctx       : Option CtxId
  cause     : LaneFault
  priority  : Fin 4
  capacity  : Nat
  halfA     : Nat
  halfB     : Nat
  ret       : HalfReturn
  deriving DecidableEq, Repr

/-- A lane entry after power-on reset, port reset or CLEAR (Table 7-1). -/
def Lane.reset : Lane where
  state := .disabled
  hold := false
  expected := .a
  inService := none
  look := none
  ctx := none
  cause := .none
  priority := 0
  capacity := 0
  halfA := 0
  halfB := 0
  ret := .none

/-- The lane commands by code: ENABLE 1 to RETIRE 5; 0, 6 and 7 name none (R173). -/
abbrev CmdCode := BitVec 3

/-- LANE_COMMAND outcomes (R159), codes 0..7 in this order (R173). -/
inductive Outcome where
  | none | pending | done | badCommand | engineNotRunning | notDisabled | laneBusy | notActive
  deriving DecidableEq, Repr

/-- The lane command in progress (R138): an ENABLE reading its descriptor, or a RETIRE pending on a merge or a return,
writing SKIPPED dispositions, or writing RETURNED RETIRED (R141). -/
inductive CmdProgress where
  | none
  | enabling (l : LaneId)
  | retirePending (l : LaneId)
  | retireSkipping (l : LaneId)
  | retireReturning (l : LaneId)
  deriving DecidableEq, Repr

/-- The LANE_COMMAND readback (R159) and the command in progress. -/
structure LaneCommand where
  code     : CmdCode
  lane     : LaneId
  outcome  : Outcome
  progress : CmdProgress
  deriving DecidableEq, Repr

/-! ### Recipe Cache -/

/-- Recipe Cache entry states (Table 5-3). -/
inductive EntryState where
  | invalid | loading | valid
  deriving DecidableEq, Repr

/-- Refusal causes (Table 5-2): NOT_VALID 1 to BAD_POLICY 7 in this order, none 0 (R173). -/
inductive Refused where
  | notValid | badGeometry | badExtent | badFold | badCode | badSites | badPolicy
  deriving DecidableEq, Repr

/-- A trend writeback in flight (R101): where it stores, and the values taken. -/
structure TrendWrite where
  addr  : Nat
  e     : Int
  count : Nat
  deriving DecidableEq, Repr

/-- A load in flight (R93): waiting for the old trend words to be stored, or reading. `since` is how many bytes
`State.past` held when the read was issued: the read may have taken any that was replaced after that (assumption
log 8). -/
inductive LoadPhase where
  | none
  | afterTrend
  | reading (since : Nat)
  deriving DecidableEq, Repr

/-- A Recipe Cache entry (Table 5-3). `writing` is the trend-writeback-in-flight flag and the values being stored. -/
structure CacheEntry where
  state    : EntryState
  number   : Nat
  pins     : Nat
  stale    : Bool
  dirty    : Bool
  writing  : Option TrendWrite
  deferred : Bool
  mark     : Option Refused
  waiters  : Vector Bool 16
  copy     : Recipe
  trendE   : Int
  trendCnt : Nat
  load     : LoadPhase
  deriving DecidableEq, Repr

/-- A cache entry after power-on reset, port reset or CLEAR (Table 5-3). -/
def CacheEntry.reset : CacheEntry where
  state := .invalid
  number := 0
  pins := 0
  stale := false
  dirty := false
  writing := none
  deferred := false
  mark := none
  waiters := Vector.replicate 16 false
  copy := Recipe.zero
  trendE := 0
  trendCnt := 0
  load := .none

/-! ### Lots and the close queue -/

/-- Lot entry states (R115), in the order of Table 6-4. -/
inductive LotState where
  | free | active | ending | posted
  deriving DecidableEq, Repr

/-- A Lot Table entry (Table 6-4). -/
structure Lot where
  state      : LotState
  id         : Word
  recipe     : Nat
  wafersOpen : Nat
  wafersAll  : Nat
  tested     : Nat
  good       : Int
  bins       : Vector Int 64
  lowFlag    : Bool
  floor      : Nat
  assertFlag : Bool
  holdFlag   : Bool
  endingLane : LaneId
  deriving DecidableEq, Repr

/-- A lot entry after power-on reset, port reset or CLEAR (Table 6-4). -/
def Lot.reset : Lot where
  state := .free
  id := 0
  recipe := 0
  wafersOpen := 0
  wafersAll := 0
  tested := 0
  good := 0
  bins := Vector.replicate 64 0
  lowFlag := false
  floor := 0
  assertFlag := false
  holdFlag := false
  endingLane := 0

/-- An item of the close queue (R110). The close cause of a context item is the one its context holds (R8). -/
inductive CloseItem where
  | ctx (k : CtxId)
  | lot (i : LotId)
  deriving DecidableEq, Repr

/-- The step of the head item that the Close Unit has reached (R112 to R114); IDLE when the queue is empty. -/
inductive ClosePhase where
  | idle
  | window
  | rows (r : RowId)
  | trendRewrite
  | summary
  | posting
  | lotSummary
  | lotPosting
  deriving DecidableEq, Repr

/-! ### Merge Engine -/

/-- Site dispositions (R31), codes 0..3 in this order (R170). -/
inductive SiteDisp where
  | absent | merged | mergedStray | offMap
  deriving DecidableEq, Repr

/-- What the merge of the record waits for. -/
inductive MergePhase where
  /-- the record read (R25) -/
  | reading
  /-- the writeback of the window, before row `y` is brought in (R20) -/
  | rowWriteback (y : RowId)
  /-- the fetch of row `y` (R20) -/
  | rowFetch (y : RowId)
  /-- a live block rewrite, before the site disposition word (if any) and the disposition `code` (R73, R107, R108) -/
  | awaitLive (word : Option Word) (code : Byte)
  /-- the site disposition word's write, before the disposition `code` (R26) -/
  | siteWord (word : Word) (code : Byte)
  /-- the disposition byte's write (R26) -/
  | disposition (code : Byte)
  /-- the LIVE write of lot slot `i`, then context `k`'s slot (R107) -/
  | lotLive (i : LotId) (k : CtxId)
  /-- the LIVE write of context `k`'s summary slot (R107) -/
  | slotLive (k : CtxId)
  /-- the RETURNED FAULTED write after a record read error (R133) -/
  | faultedReturn
  deriving DecidableEq, Repr

/-- What the bound context held before an accepted record's touchdown number was recorded and its idle count restarted (R41,
R46): an engine fault that leaves the record unfinished brings these back (R28; assumption log 28). -/
structure Undo where
  lastTouch  : Word
  firstTouch : Option Word
  idleCount  : Nat
  deriving DecidableEq, Repr

/-- What an EXECUTING Merge Engine holds (R24): the lane, the half and index of the record, the record as read, the site
dispositions decided so far (their number is the site reached), the bound context, and from the acceptance of a TOUCHDOWN or
an ADJUST on what R28 brings back. -/
structure Merge where
  lane  : LaneId
  half  : Half
  index : Nat
  bytes : List Byte
  disps : List SiteDisp
  ctx   : Option CtxId
  phase : MergePhase
  undo  : Option Undo
  deriving DecidableEq, Repr

/-! ### Scanner -/

/-- A position of a scan pass (R128): a lane's look, a context's slot read, or a lot entry's slot read. -/
inductive PassPos where
  | lane (l : LaneId)
  | ctx (k : CtxId)
  | lot (i : LotId)
  deriving DecidableEq, Repr

/-- The Lane Scanner (R127): the timer's count, the pass in flight (where its issued read stands), the rescan flag. -/
structure Scanner where
  timer  : Nat
  pass   : Option PassPos
  rescan : Bool
  deriving DecidableEq, Repr

/-! ### Engine Control -/

/-- Run states (R143), codes 0..3 in this order (R173). -/
inductive RunState where
  | stopped | running | draining | faulted
  deriving DecidableEq, Repr

/-- Engine fault codes (R151), codes 0..4 in this order (R173). -/
inductive FaultCode where
  | none | badCommon | memMap | memRecipe | memSummary
  deriving DecidableEq, Repr

/-- A start in progress (R145, R146): none, the header read, or the read of a lane's descriptor. -/
inductive StartPhase where
  | none
  | header
  | descriptor (l : LaneId)
  deriving DecidableEq, Repr

/-- The configuration taken from the common header (Table 8-1). -/
structure Configuration where
  recipeCount  : Nat
  recipeTable  : Nat
  mapBase      : Nat
  mapStride    : Nat
  slotBase     : Nat
  lotBase      : Nat
  scanInterval : Nat
  deriving DecidableEq, Repr

/-- Engine Control (Table 8-1). The start-in-progress flag is `start ≠ .none`. -/
structure Engine where
  run         : RunState
  configured  : Bool
  start       : StartPhase
  stopPending : Bool
  warmPending : Bool
  fault       : FaultCode
  config      : Configuration
  deriving DecidableEq, Repr

/-- Engine Control after power-on reset, port reset or CLEAR (Table 8-1). -/
def Engine.reset : Engine where
  run := .stopped
  configured := false
  start := .none
  stopPending := false
  warmPending := false
  fault := .none
  config := ⟨0, 0, 0, 0, 0, 0, 0⟩

/-! ### Registers, notices, probe -/

/-- One flag for each notice kind (R160): used for the interrupt enables (R157). -/
structure Enables where
  handback : Bool
  close    : Bool
  alarm    : Bool
  fault    : Bool
  engine   : Bool
  deriving DecidableEq, Repr

/-- The held fields of CONTROL (R157): RUN, the interrupt enables, the mode (true EACH, false EDGE). -/
structure Control where
  run  : Bool
  ien  : Enables
  each : Bool
  deriving DecidableEq, Repr

/-- The four notice flags of a lane (R160). -/
structure LaneNotice where
  handback : Bool
  close    : Bool
  alarm    : Bool
  fault    : Bool
  deriving DecidableEq, Repr

/-- The engine notices DRAINED and ENGINE (R160), and the REFUSED indicator (R164). -/
structure Indicators where
  drained : Bool
  engine  : Bool
  refused : Bool
  deriving DecidableEq, Repr

/-- The Probe Window (R165): address fields, direction (true write), flags, PROBE_DATA, and the value taken for a
write transaction when it was accepted. -/
structure Probe where
  word    : BitVec 11
  index   : BitVec 5
  region  : BitVec 3
  isWrite : Bool
  busy    : Bool
  err     : Bool
  data    : Word
  store   : Word
  deriving DecidableEq, Repr

/-! ### The whole state -/

/-- The state of the part. -/
structure State where
  /-- Engine Control (R143). -/
  engine    : Engine
  /-- CONTROL as held (R157). -/
  control   : Control
  /-- COMMON_BASE (R153). -/
  common    : Word
  /-- LANE_COMMAND readback and command in progress (R138, R159). -/
  command   : LaneCommand
  /-- The 64 lane notice flags (R160). -/
  notices   : Vector LaneNotice 16
  /-- DRAINED, ENGINE and REFUSED (R164). -/
  flags     : Indicators
  /-- Interrupt messages raised and not yet sent, 0..8; a message carries no payload (R163). -/
  messages  : Nat
  /-- The Probe Window (R165). -/
  probe     : Probe
  /-- The value that the last ENGINE_STATE_READ returned to the host (the model's own). -/
  readValue : Word
  /-- The Context Table (R1). -/
  ctxs      : Vector Ctx 24
  /-- The Lane Table (R123). -/
  lanes     : Vector Lane 16
  /-- The Recipe Cache (R90). -/
  cache     : Vector CacheEntry 8
  /-- The last-use order of the cache, most recent first (R90). -/
  lastUse   : List EntryId
  /-- The Lot Table (R115). -/
  lots      : Vector Lot 8
  /-- The Merge Engine: IDLE when `none` (R24). -/
  merge     : Option Merge
  /-- The close queue, head first (R110). -/
  closeQ    : List CloseItem
  /-- The Close Unit (R111). -/
  closeUnit : ClosePhase
  /-- The Lane Scanner (R127). -/
  scan      : Scanner
  /-- The second counter, in hall ticks (R77). -/
  second    : Nat
  /-- Collation memory. -/
  mem       : Mem
  /-- The bytes that writes have replaced while a load's read was in flight, each with its offset, oldest first; empty
  while no load is reading (the model's own account of R93; assumption log 8). -/
  past      : List Host.Cell
  /-- The commands that wait, first in, first out (the model's own). -/
  pending   : List Instr
  deriving DecidableEq, Repr

/-- Why the machine stops with a fault. -/
inductive Fault where
  /-- Raised by MEMORY_WINDOW_WRITE when a byte would lie outside the 4 GiB of collation memory, where the spec gives no
  memory (0.2, 0.7). Safe: the model stops where no such location exists. -/
  | outsideMemory
  deriving DecidableEq, Repr

/-- Why a command has no meaning. -/
inductive Refusal where
  /-- Raised by no arm of `exec`: every command has its meaning. Safe. -/
  | notModelled (mnemonic : String)
  deriving DecidableEq, Repr

/-- The part after power-on reset (R154), with memory as an unlisted address reads and no command waiting. -/
def State.reset : State where
  engine := Engine.reset
  control := ⟨false, ⟨false, false, false, false, false⟩, false⟩
  common := 0
  command := ⟨0, 0, .none, .none⟩
  notices := Vector.replicate 16 ⟨false, false, false, false⟩
  flags := ⟨false, false, false⟩
  messages := 0
  probe := ⟨0, 0, 0, false, false, false, 0, 0⟩
  readValue := 0
  ctxs := Vector.replicate 24 Ctx.reset
  lanes := Vector.replicate 16 Lane.reset
  cache := Vector.replicate 8 CacheEntry.reset
  lastUse := [0, 1, 2, 3, 4, 5, 6, 7]
  lots := Vector.replicate 8 Lot.reset
  merge := none
  closeQ := []
  closeUnit := .idle
  scan := ⟨0, none, false⟩
  second := 0
  mem := []
  past := []
  pending := []

end Sys2Proof.Machine
end

