-- ==== Sys2Proof/Config.lean ====
section
/-!
DEFINITION. What the spec fixes once for the part, and the values it leaves open. An open value is a constant without a
body: nothing can be proved of it, so a claim about it holds for every value (assumption log 5 and 6).
-/

namespace Sys2Proof.Config

open Sys2Proof.Machine

/-- Collation memory is 4 GiB (0.2). -/
def memBytes : Nat := 2 ^ 32

/-- What a byte of collation memory that nothing has written reads as. DESIGN CHOICE, unsafe: the spec gives no content
(R154); assumption log 1. -/
def unwritten : Byte := 0

/-- Hall ticks in a second event (R77). -/
def ticksPerSecond : Nat := 1000

/-- The Bus Port holds up to 8 interrupt messages (R163). -/
def messageCapacity : Nat := 8

/-- Site counters saturate at 16,777,215 (R4). -/
def siteMax : Nat := 16777215

/-- Touches and retest touches saturate at 4,294,967,295 (R3). -/
def touchMax : Nat := 4294967295

/-- Run counters stop at 255 (R4). -/
def runMax : Nat := 255

/-- An idle count stops at 65535 when its limit is 0 (R77). -/
def idleMax : Nat := 65535

/-- A trend count stops at 65535 (R61). -/
def trendCountMax : Nat := 65535

/-- A lot takes 255 wafers (R105). -/
def lotMax : Nat := 255

/-- Free value: whether a narrow write at an offset that holds none of the eight registers sets REFUSED. R156 says both
that a write of fewer than 32 bits sets it and that a write to such an offset does not; assumption log 5. -/
opaque narrowUnmappedRefuses : Bool

/-- Free value: what the validated copy field of a cache entry holds once a load has discarded the old copy (R93 gives no
value; it can be seen only through the probe); assumption log 6. -/
opaque discardedCopy : Recipe → Recipe

end Sys2Proof.Config
end

