-- ==== Sys2Proof/Machine/Ops.lean ====
section
/-!
DEFINITION. The shared operations over memory, tables, notices and interrupt messages.
-/

namespace Sys2Proof.Machine

/-! ### Numbered tables -/

/-- Table `v` with entry `i` changed by `f`. -/
def modAt {α : Type} {n : Nat} (v : Vector α n) (i : Fin n) (f : α → α) : Vector α n := v.set i (f v[i])

/-- Table `v` with every entry changed by `f`, which also sees the entry's index. -/
def mapAll {α β : Type} {n : Nat} (v : Vector α n) (f : Fin n → α → β) : Vector β n := Vector.ofFn fun i => f i v[i]

/-- The indices of an `n`-entry table in ascending order whose entry meets `p`. -/
def idsWhere {α : Type} {n : Nat} (v : Vector α n) (p : Fin n → α → Bool) : List (Fin n) :=
  (List.finRange n).filter fun i => p i v[i]

/-- How many entries of a table meet `p`. -/
def countWhere {α : Type} {n : Nat} (v : Vector α n) (p : α → Bool) : Nat := v.toList.countP p

/-- The entries of `ids` moved so that `i` comes first (R90). -/
def moveToFront (i : EntryId) (ids : List EntryId) : List EntryId := i :: ids.filter (· ≠ i)

def State.modCtx (s : State) (k : CtxId) (f : Ctx → Ctx) : State := { s with ctxs := modAt s.ctxs k f }

def State.modLane (s : State) (l : LaneId) (f : Lane → Lane) : State := { s with lanes := modAt s.lanes l f }

def State.modEntry (s : State) (e : EntryId) (f : CacheEntry → CacheEntry) : State :=
  { s with cache := modAt s.cache e f }

def State.modLot (s : State) (i : LotId) (f : Lot → Lot) : State := { s with lots := modAt s.lots i f }

/-- What an unfinished record would bring back (R28), changed by `f`, which also sees the bound context's index. -/
def Merge.modUndo (f : CtxId → Undo → Undo) (m : Merge) : Merge :=
  { m with undo := match m.ctx with
    | some k => m.undo.map (f k)
    | none => m.undo }

/-! ### Collation memory -/

/-- The byte at offset `a`: the listed one, or the unwritten byte. -/
def Mem.read : Mem → Nat → Byte
  | [], _ => Config.unwritten
  | (b, v) :: m, a => if b = a then v else Mem.read m a

/-- Memory with byte `v` at offset `a`, in the canonical form: offsets rising, no unwritten byte listed. -/
def Mem.put : Mem → Nat → Byte → Mem
  | [], a, v => if v = Config.unwritten then [] else [(a, v)]
  | (b, w) :: m, a, v =>
    if a < b then (if v = Config.unwritten then (b, w) :: m else (a, v) :: (b, w) :: m)
    else if a = b then (if v = Config.unwritten then m else (a, v) :: m)
    else (b, w) :: Mem.put m a v

/-- A one-byte write. There is no memory outside the 4 GiB, so nothing is stored there (assumption log 3). -/
def Mem.write (m : Mem) (a : Nat) (v : Byte) : Mem := if a < Config.memBytes then Mem.put m a v else m

/-- Writes of the bytes `vs` at offsets `a`, `a + 1`, … -/
def Mem.writeBytes (m : Mem) (a : Nat) : List Byte → Mem
  | [] => m
  | v :: vs => Mem.writeBytes (Mem.write m a v) (a + 1) vs

/-- Writes of single cells, in order. -/
def Mem.writeCells (m : Mem) : List Host.Cell → Mem
  | [] => m
  | (a, v) :: cs => Mem.writeCells (Mem.write m a v) cs

/-- Every offset listed is above `lo`, rising, inside memory, and its byte is not the unwritten one. -/
def Mem.wfFrom : Nat → Mem → Bool
  | _, [] => true
  | lo, (a, v) :: m =>
    decide (lo ≤ a) && decide (a < Config.memBytes) && decide (v ≠ Config.unwritten) && Mem.wfFrom (a + 1) m

/-- The canonical form. -/
def Mem.wf (m : Mem) : Bool := Mem.wfFrom 0 m

/-- A write in flight as single cells: `vs` at offset `a`. -/
def cellsAt (a : Nat) : List Byte → List Host.Cell
  | [] => []
  | v :: vs => (a, v) :: cellsAt (a + 1) vs

/-- The read of a load of this entry is in flight (R93). -/
def CacheEntry.loadReading (c : CacheEntry) : Bool :=
  match c.load with
  | .reading _ => true
  | .none | .afterTrend => false

/-- The bytes that a write of `cs` replaces, where a load's read in flight may have taken them (R93). -/
def State.replaced (s : State) (cs : List Host.Cell) : List Host.Cell :=
  if s.cache.toList.any CacheEntry.loadReading then cs.map fun c => (c.1, Mem.read s.mem c.1) else []

/-- The part, or the host, stores `vs` at offset `a`. -/
def State.store (s : State) (a : Nat) (vs : List Byte) : State :=
  { s with mem := Mem.writeBytes s.mem a vs, past := s.past ++ s.replaced (cellsAt a vs) }

/-- The part stores single cells, in order. -/
def State.storeCells (s : State) (cs : List Host.Cell) : State :=
  { s with mem := Mem.writeCells s.mem cs, past := s.past ++ s.replaced cs }

/-! ### Notices, PEND and the interrupt message -/

/-- The four flags of one lane with their enables: (enabled, set), in register order (R173). -/
def laneFlags (en : Enables) (n : LaneNotice) : List (Bool × Bool) :=
  [(en.handback, n.handback), (en.close, n.close), (en.alarm, n.alarm), (en.fault, n.fault)]

/-- All 66 notice flags as (enabled, set) (R160, R162). -/
def State.flagList (s : State) : List (Bool × Bool) :=
  s.notices.toList.flatMap (laneFlags s.control.ien) ++
    [(s.control.ien.engine, s.flags.drained), (s.control.ien.engine, s.flags.engine)]

/-- PEND (R162): some set flag whose kind is enabled. -/
def State.pend (s : State) : Bool := s.flagList.any fun p => p.1 && p.2

/-- Enabled flags that go from clear to set over an event (R163). -/
def newlySet (before after : State) : Nat :=
  (before.flagList.zip after.flagList).countP fun p => !p.1.2 && p.2.2 && p.2.1

/-- Messages that an event raises (R163): EDGE one when PEND goes from false to true, EACH one per newly set flag. -/
def messagesRaised (before after : State) : Nat :=
  match after.control.each with
  | true => newlySet before after
  | false => if !before.pend && after.pend then 1 else 0

/-- The end of an event: the messages it raised join those held, up to 8; the rest are dropped (R163). -/
def announce (before after : State) : State :=
  { after with messages := max after.messages (min Config.messageCapacity (after.messages + messagesRaised before after)) }

def State.setHandback (s : State) (l : LaneId) : State :=
  { s with notices := modAt s.notices l fun n => { n with handback := true } }

def State.setClose (s : State) (l : LaneId) : State :=
  { s with notices := modAt s.notices l fun n => { n with close := true } }

def State.setAlarm (s : State) (l : LaneId) : State :=
  { s with notices := modAt s.notices l fun n => { n with alarm := true } }

def State.setFault (s : State) (l : LaneId) : State :=
  { s with notices := modAt s.notices l fun n => { n with fault := true } }

/-- REFUSED of ENGINE_STATE is set (R164). -/
def State.refuse (s : State) : State := { s with flags := { s.flags with refused := true } }

/-! ### Lanes -/

/-- The lane enters FAULTED with a cause and FAULT is set on it (R142). -/
def State.laneFault (s : State) (l : LaneId) (c : LaneFault) : State :=
  (s.modLane l fun n => { n with state := .faulted, cause := c }).setFault l

/-- The other half. -/
def Half.other : Half → Half
  | .a => .b
  | .b => .a

/-- Every lane in WAIT_CONTEXT returns to READY (R10, R136). -/
def State.wakeContext (s : State) : State :=
  { s with lanes := mapAll s.lanes fun _ n => if n.state = .waitContext then { n with state := .ready } else n }

/-- Every lane in WAIT_RECIPE returns to READY (R99, R136). -/
def State.wakeRecipe (s : State) : State :=
  { s with lanes := mapAll s.lanes fun _ n => if n.state = .waitRecipe then { n with state := .ready } else n }

/-- `s.wakeRecipe` when `b`. -/
def State.wakeRecipeIf (s : State) (b : Bool) : State := if b then s.wakeRecipe else s

/-- A RETIRE of lane `l` has been taken and waits for its merge or return (R141). -/
def State.retirePending (s : State) (l : LaneId) : Bool := decide (s.command.progress = .retirePending l)

/-- The engine is neither STOPPED nor FAULTED: blocks work (Table 8-2). -/
def State.working (s : State) : Bool := decide (s.engine.run = .running) || decide (s.engine.run = .draining)

/-- The engine is not FAULTED: an operation in flight may still complete (R151). -/
def State.unfaulted (s : State) : Bool := decide (s.engine.run ≠ .faulted)

end Sys2Proof.Machine
end

