-- ==== Sys2Proof/Machine/Flags.lean ====
section
/-!
DEFINITION. Yields, shares, gaps, runs and trends (chapter 3), and what the monitors make of them (chapter 4).
-/

namespace Sys2Proof.Machine

/-! ### Yields -/

/-- The wafer yield Y (R50). -/
def waferYield (c : Ctx) : Int := if c.tested = 0 then 0 else c.good * 10000 / (c.tested : Int)

/-- The site yield SY of site `i` (R51). -/
def siteYield (c : Ctx) (i : SiteId) : Nat := if c.siteTested[i] = 0 then 0 else c.sitePass[i] * 10000 / c.siteTested[i]

/-- The lot yield LY (R52). -/
def lotYield (t : Lot) : Int := if t.tested = 0 then 0 else t.good * 10000 / (t.tested : Int)

/-- The LOT_FLOOR comparison (R52). -/
def lotLow (t : Lot) : Bool := decide (0 < t.floor) && decide (lotYield t < (t.floor : Int))

/-- The reported trend (R59). -/
def reportedTrend (e : Int) : Int := e / 256

/-- The sample test of a context (R53). -/
def sampleMet (r : Recipe) (c : Ctx) : Bool := decide (r.minSample ≤ c.tested)

/-! ### Comparisons -/

/-- Yield floor assertion comparison (R54). -/
def floorAsserts (r : Recipe) (c : Ctx) : Bool :=
  decide (0 < r.floor) && sampleMet r c && decide (waferYield c < (r.floor : Int))

/-- Yield floor release comparison (R54). -/
def floorReleases (r : Recipe) (c : Ctx) : Bool :=
  decide (0 < r.floor) && decide ((min (r.floor + r.floorHyst) 10000 : Nat) ≤ waferYield c)

/-- Bin limit assertion comparison of code `b` (R55). -/
def binAsserts (r : Recipe) (c : Ctx) (b : BinCode) : Bool :=
  decide (0 < (r.bins[b]).limit) && sampleMet r c && decide (((r.bins[b]).limit : Int) * c.tested < c.bins[b] * 10000)

/-- Bin limit release comparison of code `b` (R55). -/
def binReleases (r : Recipe) (c : Ctx) (b : BinCode) : Bool :=
  decide (0 < (r.bins[b]).limit) && decide (c.bins[b] * 10000 ≤ (((r.bins[b]).limit - r.binHyst : Nat) : Int) * c.tested)

/-- The site yields of the qualifying sites (R56). -/
def gapYields (r : Recipe) (c : Ctx) : List Nat :=
  ((List.finRange 16).filter fun i => decide (r.minSample ≤ c.siteTested[i])).map (siteYield c)

/-- The site gap: none with fewer than two qualifying sites (R56). -/
def siteGap (r : Recipe) (c : Ctx) : Option Nat :=
  match gapYields r c with
  | y :: z :: ys => some ((z :: ys).foldl max y - (z :: ys).foldl min y)
  | _ => none

/-- Site gap assertion comparison (R56). -/
def gapAsserts (r : Recipe) (c : Ctx) : Bool :=
  match siteGap r c with
  | some g => decide (0 < r.gapLimit) && decide (r.gapLimit < g)
  | none => false

/-- Site gap release comparison (R56). -/
def gapReleases (r : Recipe) (c : Ctx) : Bool :=
  match siteGap r c with
  | some g => decide (0 < r.gapLimit) && decide (g ≤ r.gapLimit - r.gapHyst)
  | none => false

/-- Site run assertion comparison of site `i` (R58). -/
def runAsserts (r : Recipe) (c : Ctx) (i : SiteId) : Bool := decide (0 < r.runLimit) && decide (r.runLimit ≤ c.run[i])

/-- Site run release comparison of site `i` (R58). -/
def runReleases (r : Recipe) (c : Ctx) (i : SiteId) : Bool := decide (0 < r.runLimit) && decide (c.run[i] = 0)

/-! ### Monitors -/

/-- The flag of kind `k` in a mask (R65). -/
def Mask.has (m : Mask) : MonitorKind → Bool
  | .yieldFloor => m.yieldFloor
  | .binLimit => m.binLimit
  | .siteRun => m.siteRun
  | .siteGap => m.siteGap
  | .idle => m.idle
  | .trendLow => m.trendLow
  | .lotFloor => m.lotFloor

/-- An event of an evaluation: its kind, and whether it is an assertion (R72). -/
structure Event where
  kind      : MonitorKind
  assertion : Bool
  deriving DecidableEq, Repr

/-- The event is enabled (R72). -/
def Event.enabled (r : Recipe) (e : Event) : Bool :=
  if e.assertion then r.assertMask.has e.kind else r.releaseMask.has e.kind

/-- The event is an enabled assertion whose kind is in the hold mask (R72). -/
def Event.holds (r : Recipe) (e : Event) : Bool := e.assertion && e.enabled r && r.holdMask.has e.kind

/-- The active entry after an evaluation (Table 4-2): a released instance makes the assertion comparison alone, an
asserted one the release comparison alone. -/
def nextActive (active asserts releases : Bool) : Bool := if active then !releases else asserts

/-- The event of one instance, from its entry before and after (R69). -/
def eventOf (k : MonitorKind) (before after : Bool) : List Event :=
  if before = after then [] else [⟨k, after⟩]

/-- The active set after a running evaluation (R68 to R71); IDLE is released (R70). -/
def nextActiveSet (r : Recipe) (c : Ctx) : MonitorSet where
  floor := nextActive c.active.floor (floorAsserts r c) (floorReleases r c)
  gap := nextActive c.active.gap (gapAsserts r c) (gapReleases r c)
  idle := false
  trend := c.active.trend
  bins := mapAll c.active.bins fun b on => nextActive on (binAsserts r c b) (binReleases r c b)
  sites := mapAll c.active.sites fun i on => nextActive on (runAsserts r c i) (runReleases r c i)

/-- The latched set takes every entry of the active set (R67). -/
def latch (latched active : MonitorSet) : MonitorSet where
  floor := latched.floor || active.floor
  gap := latched.gap || active.gap
  idle := latched.idle || active.idle
  trend := latched.trend || active.trend
  bins := mapAll latched.bins fun b on => on || active.bins[b]
  sites := mapAll latched.sites fun i on => on || active.sites[i]

/-- The events of a running evaluation (R71). -/
def evaluationEvents (before after : MonitorSet) : List Event :=
  eventOf .yieldFloor before.floor after.floor ++ eventOf .siteGap before.gap after.gap ++
    eventOf .idle before.idle after.idle ++
    (List.finRange 64).flatMap (fun b => eventOf .binLimit before.bins[b] after.bins[b]) ++
    (List.finRange 16).flatMap (fun i => eventOf .siteRun before.sites[i] after.sites[i])

/-- A running evaluation of a context (R68): its sets take every change together (R71). -/
def evaluated (r : Recipe) (c : Ctx) : Ctx :=
  { c with active := nextActiveSet r c, latched := latch c.latched (nextActiveSet r c) }

/-! ### Trend -/

/-- The TREND_LOW comparison (R60). -/
def trendLow (r : Recipe) (c : Ctx) (e : Int) (count : Nat) : Bool :=
  decide (r.warmup ≤ count) && decide (waferYield c * 256 + (r.margin : Int) * 256 < e)

/-- E after an eligible wafer (R61, items 1 to 3). -/
def trendNext (r : Recipe) (c : Ctx) (e : Int) (count : Nat) : Int :=
  if r.guarded && trendLow r c e count then e
  else if count = 0 then waferYield c * 256
  else e + Int.tdiv (waferYield c * 256 - e) (2 ^ r.weight)

end Sys2Proof.Machine
end

