-- ==== Sys2Proof/Machine/Operands.lean ====
section
/-!
DEFINITION. The layouts of chapter 10: byte order, hand-over words, records, the common header, lane descriptors, recipe
table entries with their validation and clamping (R88, R89), map cells, live blocks, summary blocks and lot summaries.
-/

namespace Sys2Proof.Machine

/-! ### Byte order (R169: little-endian) -/

/-- The low `n` bytes of `v`, least significant first. -/
def leBytes : Nat → Nat → List Byte
  | 0, _ => []
  | n + 1, v => BitVec.ofNat 8 v :: leBytes n (v / 256)

/-- A count written into `n` bytes. -/
def leInt (n : Nat) (v : Int) : List Byte := leBytes n (BitVec.ofInt (8 * n) v).toNat

def get8 (src : Nat → Byte) (o : Nat) : Nat := (src o).toNat

def get16 (src : Nat → Byte) (o : Nat) : Nat := get8 src o + 256 * get8 src (o + 1)

def get32 (src : Nat → Byte) (o : Nat) : Nat := get16 src o + 65536 * get16 src (o + 2)

/-- A signed 16-bit field. -/
def getS16 (src : Nat → Byte) (o : Nat) : Int := (BitVec.ofNat 16 (get16 src o)).toInt

/-- Bit `i` of a byte-wide field. -/
def bit8 (src : Nat → Byte) (o i : Nat) : Bool := (src o).getLsbD i

/-- The bytes at offset `a` of collation memory. -/
def memSrc (m : Mem) (a : Nat) : Nat → Byte := fun o => Mem.read m (a + o)

/-- The bytes of a record as read. -/
def listSrc (bs : List Byte) : Nat → Byte := fun o => bs.getD o 0

/-- `n` bytes of collation memory from offset `a`. -/
def Mem.readBytes (m : Mem) (a : Nat) : Nat → List Byte
  | 0 => []
  | n + 1 => Mem.read m a :: Mem.readBytes m (a + 1) n

/-- `bs` lengthened with 0 bytes to `n` bytes. -/
def padTo (n : Nat) (bs : List Byte) : List Byte := bs ++ List.replicate (n - bs.length) 0

/-- Flags as the bits of a number, entry 0 in bit 0. -/
def packBits : List Bool → Nat
  | [] => 0
  | b :: bs => b.toNat + 2 * packBits bs

/-! ### Hand-over words (R170) -/

/-- A hand-over word: state code, status, count. -/
def handover (code status : Byte) (count : Nat) : List Byte := code :: status :: leBytes 2 count

def codeIdle : Nat := 0
def codeOffered : Nat := 1
def codeReturned : Nat := 2

def statusComplete : Byte := 1
def statusEmpty : Byte := 2
def statusRetired : Byte := 3
def statusFaulted : Byte := 4

/-- RETURNED with a status and a count, in a half. -/
def returnedWord (status : Byte) (count : Nat) : List Byte := handover 2 status count

/-- LIVE and POSTED, in a summary slot or lot slot; COLLECTED is 3. -/
def liveWord : List Byte := handover 1 0 0
def postedWord : List Byte := handover 2 0 0
def codeCollected : Nat := 3

/-! ### Records (R170) -/

def kindOpen : Nat := 1
def kindTouchdown : Nat := 2
def kindAdjust : Nat := 3
def kindClose : Nat := 4
def kindLotEnd : Nat := 5
def kindNop : Nat := 6

def recKind (bs : List Byte) : Nat := get8 (listSrc bs) 0
/-- The wafer tag: at offset 4 in OPEN, TOUCHDOWN, ADJUST and CLOSE. -/
def recTag (bs : List Byte) : Word := BitVec.ofNat 32 (get32 (listSrc bs) 4)
def openLot (bs : List Byte) : Word := BitVec.ofNat 32 (get32 (listSrc bs) 8)
def openRecipe (bs : List Byte) : Nat := get16 (listSrc bs) 12
def tdNumber (bs : List Byte) : Word := BitVec.ofNat 32 (get32 (listSrc bs) 8)
def tdX (bs : List Byte) : Int := getS16 (listSrc bs) 12
def tdY (bs : List Byte) : Int := getS16 (listSrc bs) 14
/-- The site mask's entry for a site. -/
def tdMask (bs : List Byte) (i : SiteId) : Bool := (BitVec.ofNat 16 (get16 (listSrc bs) 16)).getLsbD i.val
def tdSoft (bs : List Byte) (i : SiteId) : Nat := get16 (listSrc bs) (24 + 2 * i.val)
def adjX (bs : List Byte) : Int := getS16 (listSrc bs) 8
def adjY (bs : List Byte) : Int := getS16 (listSrc bs) 10
def adjCode (bs : List Byte) : Nat := get8 (listSrc bs) 12
/-- The lot id of a LOT_END. -/
def endLot (bs : List Byte) : Word := BitVec.ofNat 32 (get32 (listSrc bs) 4)

/-! Record disposition codes (Table 10-5). -/

def dAccepted : Byte := 1
def dPartial : Byte := 2
def dSkipped : Byte := 3
def dNoWafer : Byte := 0x10
def dWaferMismatch : Byte := 0x11
def dStaleTouchdown : Byte := 0x12
def dOffMap : Byte := 0x13
def dEmptyMask : Byte := 0x14
def dBadBin : Byte := 0x15
def dAlreadyOpen : Byte := 0x16
def dBadRecipe : Byte := 0x17
def dMapTooBig : Byte := 0x18
def dLotFull : Byte := 0x19
def dLotTableFull : Byte := 0x1A
def dRecipeMismatch : Byte := 0x1B
def dNoLot : Byte := 0x1C
def dLotBusy : Byte := 0x1D
def dBadKind : Byte := 0x1E

/-- Site disposition codes (R170). -/
def SiteDisp.code : SiteDisp → Nat
  | .absent => 0
  | .merged => 1
  | .mergedStray => 2
  | .offMap => 3

/-- The site disposition word: site s in bits 2s..2s+1 (R170). -/
def siteWordOf : List SiteDisp → Nat
  | [] => 0
  | d :: ds => d.code + 4 * siteWordOf ds

/-! ### Common header (Table 10-1) and lane descriptors (Table 10-2) -/

/-- The common header as read. -/
structure Header where
  format    : Nat
  rcount    : Nat
  rtab      : Nat
  mapBase   : Nat
  mapSize   : Nat
  stride    : Nat
  slotBase  : Nat
  lotBase   : Nat
  scanIv    : Nat
  deriving DecidableEq, Repr

def headerOf (src : Nat → Byte) : Header where
  format := get32 src 0
  rcount := get32 src 4
  rtab := get32 src 8
  mapBase := get32 src 12
  mapSize := get32 src 16
  stride := get32 src 20
  slotBase := get32 src 24
  lotBase := get32 src 28
  scanIv := get8 src 32

/-- `n` bytes from offset `a` lie inside collation memory. -/
def inMemory (a n : Nat) : Bool := decide (a + n ≤ Config.memBytes)

/-- The checks of Table 8-3 (R145). -/
def headerOk (base : Nat) (h : Header) : Bool :=
  decide (base % 64 = 0) && inMemory base 320 && decide (h.format = 1) && decide (1 ≤ h.rcount) &&
    decide (h.rcount ≤ 256) && decide (h.rtab % 4096 = 0) && inMemory h.rtab (h.rcount * 4096) &&
    decide (h.mapBase % 4096 = 0) && inMemory h.mapBase h.mapSize && decide (0 < h.stride) &&
    decide (h.stride % 4096 = 0) && decide (24 * h.stride ≤ h.mapSize) && decide (h.slotBase % 1024 = 0) &&
    inMemory h.slotBase (24 * 1024) && decide (h.lotBase % 512 = 0) && inMemory h.lotBase (8 * 512)

/-- The configuration a header gives; a scan interval of 0 is taken as 1 (R127). -/
def configOf (h : Header) : Configuration where
  recipeCount := h.rcount
  recipeTable := h.rtab
  mapBase := h.mapBase
  mapStride := h.stride
  slotBase := h.slotBase
  lotBase := h.lotBase
  scanInterval := max 1 h.scanIv

/-- A lane descriptor as read (R122). -/
structure Descriptor where
  enabled  : Bool
  priority : Fin 4
  capacity : Nat
  halfA    : Nat
  halfB    : Nat
  deriving DecidableEq, Repr

def descriptorOf (src : Nat → Byte) : Descriptor where
  enabled := bit8 src 0 0
  priority := Fin.ofNat 4 (get8 src 1)
  capacity := get16 src 2
  halfA := get32 src 4
  halfB := get32 src 8

/-- A half of capacity `cap` occupies 64 + cap × 64 bytes (R122). -/
def halfBytes (cap : Nat) : Nat := 64 + cap * 64

/-- A valid descriptor (R122). -/
def Descriptor.ok (d : Descriptor) : Bool :=
  decide (1 ≤ d.capacity) && decide (d.capacity ≤ 256) && decide (d.halfA % 64 = 0) && decide (d.halfB % 64 = 0) &&
    inMemory d.halfA (halfBytes d.capacity) && inMemory d.halfB (halfBytes d.capacity) &&
    (decide (d.halfA + halfBytes d.capacity ≤ d.halfB) || decide (d.halfB + halfBytes d.capacity ≤ d.halfA))

/-- Where lane l's descriptor lies: 64 + 16 × l in the common area (R169). -/
def State.descriptorAddr (s : State) (l : LaneId) : Nat := s.common.toNat + 64 + 16 * l.val

/-! ### Offsets -/

/-- The offset of a lane's half. -/
def Lane.halfAddr (n : Lane) : Half → Nat
  | .a => n.halfA
  | .b => n.halfB

/-- Record i of a half (R125). -/
def Lane.recordAddr (n : Lane) (h : Half) (i : Nat) : Nat := n.halfAddr h + 64 + i * 64

/-- Recipe table entry n (R86). -/
def State.recipeAddr (s : State) (n : Nat) : Nat := s.engine.config.recipeTable + n * 4096

/-- Row y of context k's map image, for a geometry of `cols` columns (R14). -/
def State.rowAddr (s : State) (k : CtxId) (cols : Nat) (y : RowId) : Nat :=
  s.engine.config.mapBase + k.val * s.engine.config.mapStride + y.val * cols * 2

/-- Summary slot k (6.6). -/
def State.slotAddr (s : State) (k : CtxId) : Nat := s.engine.config.slotBase + k.val * 1024

/-- Lot slot i (R120). -/
def State.lotAddr (s : State) (i : LotId) : Nat := s.engine.config.lotBase + i.val * 512

/-! ### Map cells and rows (R171) -/

def CellState.code : CellState → Nat
  | .outside => 0
  | .empty => 1
  | .binned => 2
  | .adjusted => 3

def CellState.ofCode (n : Nat) : CellState :=
  if n = 0 then .outside else if n = 1 then .empty else if n = 2 then .binned else .adjusted

/-- A cell's halfword: code in bits 0..5, touches 6..7, site 8..11, state 12..13. -/
def MapCell.halfword (c : MapCell) : Nat := c.code.val + 64 * c.touches.val + 256 * c.site.val + 4096 * c.state.code

/-- The cell that a halfword holds; bits 14..15 are ignored. -/
def MapCell.ofHalfword (w : Nat) : MapCell where
  state := CellState.ofCode (w / 4096 % 4)
  code := Fin.ofNat 64 w
  touches := Fin.ofNat 4 (w / 64)
  site := Fin.ofNat 16 (w / 256)

def outsideCell : MapCell := ⟨.outside, 0, 0, 0⟩
def emptyCell : MapCell := ⟨.empty, 0, 0, 0⟩

/-- A row's bytes. -/
def rowBytes (cells : List MapCell) : List Byte := cells.flatMap fun c => leBytes 2 c.halfword

/-- The row of `cols` cells whose bytes a fetch reads (R20). -/
def rowOf (src : Nat → Byte) (cols : Nat) : List MapCell :=
  (List.range cols).map fun x => MapCell.ofHalfword (get16 src (2 * x))

/-- Column x of row y lies in the row extent (R16). -/
def inExtent (r : Recipe) (x y : Nat) : Bool :=
  match r.extents.getD y none with
  | some (first, last) => decide (first ≤ x) && decide (x ≤ last)
  | none => false

/-- A row as synthesis makes it (R18). -/
def synthRow (r : Recipe) (y : RowId) : List MapCell :=
  (List.range r.cols).map fun x => if inExtent r x y.val then emptyCell else outsideCell

/-- The die position test (R32): column and row on the map, or none for OFF_MAP. -/
def onMap (r : Recipe) (x y : Int) : Option (Nat × RowId) :=
  if 0 ≤ x ∧ x < r.cols ∧ 0 ≤ y ∧ y < r.rows ∧ inExtent r x.toNat y.toNat then
    if h : y.toNat < 512 then some (x.toNat, ⟨y.toNat, h⟩) else none
  else none

/-- The rows 0..rows−1 of a geometry, ascending. -/
def rowIds (r : Recipe) : List RowId := (List.finRange 512).filter fun y => decide (y.val < r.rows)

/-! ### Recipe table entries (Table 10-6) -/

/-- A 7-bit signed offset in bits 0..6 of a byte. -/
def offsetAt (src : Nat → Byte) (o : Nat) : Int := (BitVec.ofNat 7 (get8 src o)).toInt

/-- The extent of row y: none when the first column holds the empty marker 0xFFFF. -/
def extentAt (src : Nat → Byte) (y : Nat) : Option (Nat × Nat) :=
  if get16 src (1024 + 4 * y) = 0xFFFF then none
  else some (get16 src (1024 + 4 * y), get16 src (1026 + 4 * y))

def extentBad (cols : Nat) : Option (Nat × Nat) → Bool
  | none => false
  | some (first, last) => decide (last < first) || decide (cols ≤ last)

/-- The structural faults of Table 5-2, in its order: the first that holds (R88). -/
def refusalOf (src : Nat → Byte) : Option Refused :=
  if bit8 src 0 0 = false then some .notValid
  else if get16 src 4 = 0 ∨ 512 < get16 src 4 ∨ get16 src 6 = 0 ∨ 512 < get16 src 6 then some .badGeometry
  else if (List.range (get16 src 6)).any fun y => extentBad (get16 src 4) (extentAt src y) then some .badExtent
  else if 32 < get8 src 3 then some .badFold
  else if (List.range (get8 src 3)).any fun i => decide (get16 src (354 + 8 * i) < get16 src (352 + 8 * i)) then
    some .badFold
  else if ((List.range (get8 src 3)).any fun i => decide (63 < get8 src (356 + 8 * i))) || decide (63 < get8 src 8) then
    some .badCode
  else if get8 src 2 = 0 ∨ 16 < get8 src 2 then some .badSites
  else if 2 < get8 src 1 then some .badPolicy
  else none

def Policy.ofCode (n : Nat) : Policy := if n = 0 then .last else if n = 1 then .best else .passSticky

def Policy.code : Policy → Nat
  | .last => 0
  | .best => 1
  | .passSticky => 2

/-- The mask in a byte; bit 7 is ignored (R171). -/
def maskOf (src : Nat → Byte) (o : Nat) : Mask where
  yieldFloor := bit8 src o 0
  binLimit := bit8 src o 1
  siteRun := bit8 src o 2
  siteGap := bit8 src o 3
  idle := bit8 src o 4
  trendLow := bit8 src o 5
  lotFloor := bit8 src o 6

/-- Basis points above 10000 become 10000 (R89). -/
def clampBp (n : Nat) : Nat := min n 10000

/-- The validated copy that a valid entry gives, with the clamping of Table 3-1 (R89). -/
def recipeOf (src : Nat → Byte) : Recipe where
  valid := true
  cols := get16 src 4
  rows := get16 src 6
  extents := (List.range (get16 src 6)).map (extentAt src)
  folds := (List.range (get8 src 3)).map fun i =>
    ⟨get16 src (352 + 8 * i), get16 src (354 + 8 * i), Fin.ofNat 64 (get8 src (356 + 8 * i))⟩
  stray := Fin.ofNat 64 (get8 src 8)
  bins := Vector.ofFn fun b : BinCode =>
    ⟨bit8 src (96 + 4 * b.val) 7, get8 src (96 + 4 * b.val) % 64, clampBp (get16 src (98 + 4 * b.val))⟩
  policy := Policy.ofCode (get8 src 1)
  siteCount := get8 src 2
  offsets := (List.range (get8 src 2)).map fun i => (offsetAt src (64 + 2 * i), offsetAt src (65 + 2 * i))
  minSample := max 1 (get16 src 12)
  floor := clampBp (get16 src 14)
  floorHyst := clampBp (get16 src 16)
  binHyst := clampBp (get16 src 18)
  runLimit := get8 src 20
  gapLimit := clampBp (get16 src 22)
  gapHyst := clampBp (get16 src 24)
  idleLimit := get16 src 26
  autoclose := bit8 src 9 0
  guarded := bit8 src 9 1
  weight := min 8 (max 1 (get8 src 10))
  warmup := max 1 (get8 src 11)
  margin := clampBp (get16 src 28)
  lotFloor := clampBp (get16 src 30)
  assertMask := maskOf src 32
  releaseMask := maskOf src 33
  holdMask := maskOf src 34
  trendE := min (get32 src 36) 2560000
  trendCount := get16 src 40

def maskByte (m : Mask) : Byte :=
  BitVec.ofNat 8 (packBits [m.yieldFloor, m.binLimit, m.siteRun, m.siteGap, m.idle, m.trendLow, m.lotFloor])

def BinAttr.bytes (a : BinAttr) : List Byte := BitVec.ofNat 8 (a.rank + 128 * a.pass.toNat) :: 0 :: leBytes 2 a.limit

def FoldRange.bytes (f : FoldRange) : List Byte :=
  leBytes 2 f.lo ++ leBytes 2 f.hi ++ [BitVec.ofNat 8 f.code.val, 0, 0, 0]

def extentBytes : Option (Nat × Nat) → List Byte
  | none => leBytes 2 0xFFFF ++ leBytes 2 0
  | some (first, last) => leBytes 2 first ++ leBytes 2 last

def offsetBytes (d : Int × Int) : List Byte :=
  [BitVec.ofNat 8 (BitVec.ofInt 7 d.1).toNat, BitVec.ofNat 8 (BitVec.ofInt 7 d.2).toNat]

/-- The validated copy in the layout of Table 10-6, 0 in every part not taken into it (R173). -/
def Recipe.image (r : Recipe) : List Byte :=
  padTo 64 ([BitVec.ofNat 8 r.valid.toNat, BitVec.ofNat 8 r.policy.code, BitVec.ofNat 8 r.siteCount,
      BitVec.ofNat 8 r.folds.length] ++ leBytes 2 r.cols ++ leBytes 2 r.rows ++
      [BitVec.ofNat 8 r.stray.val, BitVec.ofNat 8 (packBits [r.autoclose, r.guarded]), BitVec.ofNat 8 r.weight,
        BitVec.ofNat 8 r.warmup] ++ leBytes 2 r.minSample ++ leBytes 2 r.floor ++ leBytes 2 r.floorHyst ++
      leBytes 2 r.binHyst ++ [BitVec.ofNat 8 r.runLimit, 0] ++ leBytes 2 r.gapLimit ++ leBytes 2 r.gapHyst ++
      leBytes 2 r.idleLimit ++ leBytes 2 r.margin ++ leBytes 2 r.lotFloor ++
      [maskByte r.assertMask, maskByte r.releaseMask, maskByte r.holdMask, 0] ++ leInt 4 r.trendE ++
      leBytes 2 r.trendCount) ++
    padTo 32 (r.offsets.flatMap offsetBytes) ++ r.bins.toList.flatMap BinAttr.bytes ++
    padTo 672 (r.folds.flatMap FoldRange.bytes) ++ padTo 3072 (r.extents.flatMap extentBytes)

/-- The eight bytes of a trend writeback: E, then the count in bits 0..15 (R171). -/
def TrendWrite.bytes (t : TrendWrite) : List Byte := leInt 4 t.e ++ leBytes 2 t.count ++ leBytes 2 0

/-! ### Live block, summary block, lot summary (R172) -/

/-- A monitor set in the 16-byte set layout. -/
def MonitorSet.bytes (m : MonitorSet) : List Byte :=
  padTo 16 (leBytes 8 (packBits m.bins.toList) ++ leBytes 2 (packBits m.sites.toList) ++
    [BitVec.ofNat 8 (packBits [m.floor, m.gap, m.idle, m.trend])])

/-- The materialized row count (R17). -/
def Ctx.rowCount (c : Ctx) : Nat := c.rowsDone.toList.countP id

def binBytes (v : Vector Int 64) : List Byte := v.toList.flatMap (leInt 4)

/-- The contents of a live block, bytes 68..383 of the slot. -/
def Ctx.liveContents (c : Ctx) : List Byte :=
  leBytes 4 c.tested ++ leInt 4 c.good ++ leInt 2 (waferYield c) ++ leBytes 2 (decide (c.tested = 0)).toNat ++
    leBytes 4 c.touches ++ leBytes 4 c.retests ++ leBytes 4 c.lastTouch.toNat ++ leBytes 4 c.rowCount ++
    c.active.bytes ++ c.latched.bytes ++ binBytes c.bins

def CloseCause.code : CloseCause → Nat
  | .none => 0
  | .record => 1
  | .idle => 2
  | .retired => 3

/-- The summary block, bytes 512..951 of the slot (R119), of a context whose lot has id `lot` and whose trend stands at
`e`. -/
def Ctx.summary (c : Ctx) (lot : Word) (e : Int) : List Byte :=
  leBytes 4 lot.toNat ++ leBytes 4 c.tag.toNat ++ leBytes 2 c.recipeNumber ++ leBytes 1 c.cause.code ++ leBytes 1 0 ++
    leBytes 4 c.tested ++ leInt 4 c.good ++ leInt 2 (waferYield c) ++ leInt 2 (reportedTrend e) ++
    leBytes 4 c.touches ++ leBytes 4 c.retests ++ leBytes 4 (c.firstTouch.getD 0).toNat ++
    leBytes 4 c.lastTouch.toNat ++ c.latched.bytes ++ binBytes c.bins ++
    (List.finRange 16).flatMap fun i => leBytes 4 c.siteTested[i] ++ leBytes 4 c.sitePass[i]

/-- The lot summary, bytes 64..351 of the lot slot (R120). -/
def Lot.summary (t : Lot) : List Byte :=
  leBytes 4 t.id.toNat ++ leBytes 2 t.recipe ++ leBytes 1 t.wafersAll ++ leBytes 1 t.lowFlag.toNat ++
    leBytes 4 t.tested ++ leInt 4 t.good ++ padTo 16 (leInt 2 (lotYield t)) ++ binBytes t.bins

/-! ### What contexts and lanes name -/

/-- The cache entry a context's recipe cache index names (R2). -/
def State.entryOf (s : State) (c : Ctx) : CacheEntry := s.cache[c.entry]

/-- The validated copy a context is merged, monitored and closed under (R47, R65). -/
def State.recipeFor (s : State) (k : CtxId) : Recipe := (s.entryOf s.ctxs[k]).copy

end Sys2Proof.Machine
end

