-- ==== Sys2Proof/Machine/Cache.lean ====
section
/-!
DEFINITION. The Recipe Cache (chapter 5): trend writebacks, victims, lookups, loads, pins, flushes, and the completions
RECIPE_LOAD_DONE (installing part) and TREND_WRITEBACK_DONE.
-/

namespace Sys2Proof.Machine

/-! ### Trend writebacks and invalidation -/

/-- A trend writeback of the entry falls due (R101): it starts, its words taken as they stand, or is deferred while one
of the same entry is in flight. `addr` is where the words of the entry's recipe number lie. -/
def CacheEntry.takeTrend (addr : Nat) (c : CacheEntry) : CacheEntry :=
  if c.writing.isSome then { c with deferred := true }
  else { c with dirty := false, writing := some ⟨addr, c.trendE, c.trendCnt⟩ }

/-- Where the trend words of recipe number `n` lie (R171: bytes 36..43). -/
def State.trendAddr (s : State) (n : Nat) : Nat := s.recipeAddr n + 36

def State.startTrend (s : State) (e : EntryId) : State :=
  s.modEntry e fun c => c.takeTrend (s.trendAddr c.number)

def noWaiters : Vector Bool 16 := Vector.replicate 16 false

/-- An entry becomes INVALID (R98): stale flag clear, no mark, no waiters. -/
def CacheEntry.invalidate (c : CacheEntry) : CacheEntry :=
  { c with state := .invalid, stale := false, mark := none, waiters := noWaiters }

def CacheEntry.waitersEmpty (c : CacheEntry) : Bool := c.waiters.toList.all (! ·)

/-- A victim candidate (R92). -/
def CacheEntry.candidate (c : CacheEntry) : Bool :=
  decide (c.state ≠ .loading) && decide (c.pins = 0) && c.waitersEmpty && c.writing.isNone

/-! ### Pins -/

/-- An accepted OPEN pins entry `e` (R97). -/
def State.pin (s : State) (e : EntryId) : State :=
  { s.modEntry e (fun c => { c with pins := c.pins + 1 }) with lastUse := moveToFront e s.lastUse }

/-- What a release does to the entry once its pin count has fallen to 0 (R98). -/
def CacheEntry.unpinned (addr : Nat) (c : CacheEntry) : CacheEntry :=
  if c.stale then (if c.dirty then c.takeTrend addr else c.invalidate) else c

/-- A context's pin on entry `e` is released (R98); the lanes in WAIT_RECIPE wake when the count falls to 0. -/
def State.releasePin (s : State) (e : EntryId) : State :=
  if s.cache[e].pins ≤ 1 then
    (s.modEntry e fun c => CacheEntry.unpinned (s.trendAddr c.number) { c with pins := c.pins - 1 }).wakeRecipe
  else s.modEntry e fun c => { c with pins := c.pins - 1 }

/-! ### Lookup (R91) -/

/-- The outcome of a lookup (Table 5-4). -/
inductive Lookup where
  | ready (e : EntryId)
  | refused
  | join (e : EntryId)
  | load (e : EntryId)
  | full
  deriving DecidableEq, Repr

/-- The victim a lookup chooses (R92). -/
def State.victim (s : State) : Option EntryId :=
  match (List.finRange 8).find? fun e =>
      s.cache[e].candidate && decide (s.cache[e].state = .invalid) && s.cache[e].mark.isNone with
  | some e => some e
  | none =>
    match s.lastUse.reverse.find? fun e => s.cache[e].candidate && decide (s.cache[e].state = .valid) with
    | some e => some e
    | none => s.lastUse.reverse.find? fun e => s.cache[e].candidate && decide (s.cache[e].state = .invalid)

/-- The lowest-numbered entry that holds number `n` and meets `p`. -/
def State.entryWith (s : State) (n : Nat) (p : CacheEntry → Bool) : Option EntryId :=
  (List.finRange 8).find? fun e => decide (s.cache[e].number = n) && p s.cache[e]

/-- The lookup for recipe number `n` by lane `l` (Table 5-4), with the waiter sets as `s` holds them. Its first line also finds
an entry whose flush writeback is in flight: DESIGN CHOICE, R100 says that lookups skip such an entry; unsafe; assumption log
34. -/
def State.lookup (s : State) (n : Nat) (l : LaneId) : Lookup :=
  match s.entryWith n fun c => c.waiters[l] && decide (c.state = .valid) with
  | some e => .ready e
  | none =>
    if (s.entryWith n fun c => c.waiters[l] && decide (c.state = .invalid) && c.mark.isSome).isSome then .refused
    else
      match s.entryWith n fun c => decide (c.state = .valid) && !c.stale with
      | some e => .ready e
      | none =>
        match s.entryWith n fun c => decide (c.state = .loading) && !c.stale with
        | some e => .join e
        | none =>
          if (s.entryWith n fun c => decide (c.state = .invalid) && c.mark.isSome).isSome then .refused
          else
            match s.victim with
            | some e => .load e
            | none => .full

/-! ### Waiter sets -/

/-- Lane `l` leaves every waiter set (R104, R141). -/
def State.leaveWaiters (s : State) (l : LaneId) : State :=
  { s with cache := mapAll s.cache fun _ c => { c with waiters := c.waiters.set l false } }

/-- Lane `l` joins entry `e`'s waiter set (R91, line 4). -/
def State.joinWaiters (s : State) (e : EntryId) (l : LaneId) : State :=
  s.modEntry e fun c => { c with waiters := c.waiters.set l true }

/-- From `before` to `after`, lane `l` left a waiter set which that emptied, of an unpinned entry with no trend writeback
in flight (R99, fourth line). -/
def waitersFreed (before after : State) (l : LaneId) : Bool :=
  (List.finRange 8).any fun e => (before.cache[e].waiters[l] && after.cache[e].waitersEmpty) &&
    (decide (after.cache[e].pins = 0) && after.cache[e].writing.isNone)

/-- From `before` to `after`, an entry that lane `l` waited on became a victim candidate (R99, last line). -/
def candidateFreed (before after : State) (l : LaneId) : Bool :=
  (List.finRange 8).any fun e => before.cache[e].waiters[l] && after.cache[e].candidate

/-- The lanes of entry `e`'s waiter set that are in LOADING return to READY (R94). -/
def State.wakeLoading (s : State) (e : EntryId) : State :=
  { s with lanes := mapAll s.lanes fun l n =>
      if s.cache[e].waiters[l] = true ∧ n.state = .loading then { n with state := .ready } else n }

/-! ### Loads -/

/-- A load of number `n` starts in victim `e` for lane `l` (R93). The read waits for the old trend words' store when the
victim was VALID and dirty. -/
def State.startLoad (s : State) (e : EntryId) (n : Nat) (l : LaneId) : State :=
  s.modEntry e fun c =>
    let storing := decide (c.state = .valid) && c.dirty
    let c := if storing then c.takeTrend (s.trendAddr c.number) else c
    { c with
      state := .loading
      number := n
      pins := 0
      stale := false
      mark := none
      waiters := noWaiters.set l true
      copy := Config.discardedCopy c.copy
      load := if storing then .afterTrend else .reading s.past.length }

/-- The bytes that a load's read of the entry at `a` takes, each "as it stands when it is read" (R93): at an offset that
`early` lists, the listed value, if a write has replaced it since the read was issued (`past`); at the rest, what memory
holds now. -/
def loadSrc (m : Mem) (past : List Host.Cell) (a : Nat) (early : List Host.Cell) : Nat → Byte := fun o =>
  match early.find? fun c => decide (c.1 = o) && past.contains (a + o, c.2) with
  | some c => c.2
  | none => Mem.read m (a + o)

/-- No load but that of entry `e` is reading. -/
def State.readsAlone (s : State) (e : EntryId) : Bool :=
  (List.finRange 8).all fun e' => decide (e' = e) || !s.cache[e'].loadReading

/-- The load into entry `e` completes with the bytes read (R94). -/
def State.installLoad (s : State) (e : EntryId) (src : Nat → Byte) : State :=
  match refusalOf src with
  | none =>
    let r := recipeOf src
    let t := s.modEntry e fun c =>
      { c with state := .valid, copy := r, trendE := r.trendE, trendCnt := r.trendCount, dirty := false, load := .none }
    { (t.wakeLoading e).wakeRecipeIf s.cache[e].waitersEmpty with lastUse := moveToFront e s.lastUse }
  | some m =>
    let t := s.modEntry e fun c => { c with state := .invalid, mark := some m, load := .none }
    { (t.wakeLoading e).wakeRecipe with lastUse := moveToFront e s.lastUse }

/-- The same, and the bytes noted for this read are forgotten when no other read may want them. -/
def State.finishLoad (s : State) (e : EntryId) (src : Nat → Byte) : State :=
  { s.installLoad e src with past := if s.readsAlone e then [] else s.past }

/-! ### Flush (R100) -/

/-- What a flush that is taken does to one entry. -/
def CacheEntry.flushed (addr : Nat) (c : CacheEntry) : CacheEntry :=
  match c.state with
  | .valid =>
    if c.dirty then { c with stale := true }.takeTrend addr
    else if c.pins = 0 then c.invalidate
    else { c with stale := true }
  | .loading => { c with stale := true }
  | .invalid => { c with mark := none }

/-- The flush invalidates the entry at once. -/
def CacheEntry.flushInvalidates (c : CacheEntry) : Bool :=
  decide (c.state = .valid) && !c.dirty && decide (c.pins = 0)

/-- FLUSH_RECIPES taken: every entry in one event; each invalidation wakes the lanes in WAIT_RECIPE. -/
def State.flush (s : State) : State :=
  { s with cache := mapAll s.cache fun _ c => c.flushed (s.trendAddr c.number) }.wakeRecipeIf
    (s.cache.toList.any CacheEntry.flushInvalidates)

/-! ### The completion of a trend writeback (R101) -/

/-- The entry once its write in flight has completed. `addr` is where its own words lie; a load that waited begins its
read, with `since` bytes noted before. -/
def CacheEntry.trendStored (since addr : Nat) (c : CacheEntry) : CacheEntry :=
  let c := { c with writing := none }
  if c.deferred then { c with deferred := false }.takeTrend addr
  else if c.load = .afterTrend then { c with load := .reading since }
  else if c.state = .valid ∧ c.stale = true ∧ c.pins = 0 then c.invalidate
  else c

/-- After the write, the lanes in WAIT_RECIPE wake (R99): an unpinned VALID entry without waiters had it in flight, the
entry became INVALID, or it became a victim candidate. -/
def trendWakes (before after : CacheEntry) : Bool :=
  decide (before.pins = 0) && ((decide (before.state = .valid) && (before.waitersEmpty || decide (after.state = .invalid)))
    || after.candidate)

def State.trendDone (s : State) (e : EntryId) (t : TrendWrite) : State :=
  let u := s.store t.addr t.bytes
  let after := CacheEntry.trendStored u.past.length (s.trendAddr s.cache[e].number) s.cache[e]
  (u.modEntry e fun _ => after).wakeRecipeIf (trendWakes s.cache[e] after)

/-- TREND_WRITEBACK_DONE (R101). -/
def execTrendWritebackDone (e : EntryId) (s : State) : Host.Outcome State Fault Refusal :=
  match s.cache[e].writing with
  | some t => if s.unfaulted then .next (s.trendDone e t) else .next s
  | none => .next s

end Sys2Proof.Machine
end

