-- ==== Sys2Proof/Machine/Slots.lean ====
section
/-!
DEFINITION. Writes into summary slots, one at a time for each context (R118): live block rewrites, the summary block and the
POSTED word.
-/

namespace Sys2Proof.Machine

/-- Context `k`'s slot waits for an OPEN's LIVE write, issued or still to come after the lot slot's (R107; assumption
log 26). -/
def MergePhase.holdsSlot (k : CtxId) : MergePhase → Bool
  | .lotLive _ k' | .slotLive k' => decide (k' = k)
  | _ => false

/-- The merge holds context `k`'s slot for an OPEN's LIVE write. -/
def State.slotHeld (s : State) (k : CtxId) : Bool :=
  match s.merge with
  | some m => m.phase.holdsSlot k
  | none => false

/-- How a job's first write begins; a rewrite takes the contents as they stand (R118). -/
def beginJob (c : Ctx) : SlotJob → SlotPhase
  | .rewrite _ => .genOdd c.liveContents
  | .summary => .summary
  | .posted => .posted

/-- The head job's first write begins, unless a write to the slot is in flight or the slot is held for LIVE (R118). -/
def State.kickSlot (s : State) (k : CtxId) : State :=
  match s.ctxs[k].slotPhase, s.ctxs[k].jobs with
  | none, j :: _ =>
    if s.slotHeld k then s else s.modCtx k fun c => { c with slotPhase := some (beginJob c j) }
  | _, _ => s

/-- A write into the slot falls due. -/
def State.addJob (s : State) (k : CtxId) (j : SlotJob) : State :=
  (s.modCtx k fun c => { c with jobs := c.jobs ++ [j] }).kickSlot k

/-- A live block rewrite falls due (R118). -/
def State.rewrite (s : State) (k : CtxId) (why : RewriteFor) : State := s.addJob k (.rewrite why)

/-- The head job is complete. -/
def State.dropJob (s : State) (k : CtxId) : State :=
  s.modCtx k fun c => { c with jobs := c.jobs.tail, slotPhase := none }

/-- The lot id and the trend that context `k`'s summary block reports (R119). -/
def State.summaryBytes (s : State) (k : CtxId) : List Byte :=
  s.ctxs[k].summary s.lots[s.ctxs[k].lot].id (s.entryOf s.ctxs[k]).trendE

/-- The write in flight for context `k`'s slot: offset and bytes (R172). -/
def State.slotWrite (s : State) (k : CtxId) : Option (Nat × List Byte) :=
  match s.ctxs[k].slotPhase with
  | some (.genOdd _) => some (s.slotAddr k + 64, leBytes 4 (s.ctxs[k].generation + 1).toNat)
  | some (.contents bs) => some (s.slotAddr k + 68, bs)
  | some .genEven => some (s.slotAddr k + 64, leBytes 4 (s.ctxs[k].generation + 2).toNat)
  | some .summary => some (s.slotAddr k + 512, s.summaryBytes k)
  | some .posted => some (s.slotAddr k, postedWord)
  | none => none

/-- The hold flag of a lane is set (R74). -/
def State.setHold (s : State) (l : LaneId) : State := s.modLane l fun n => { n with hold := true }

/-- What the events of one evaluation do to the notices and the hold flag of lane `l` (Table 4-3). -/
def State.raiseEvents (s : State) (l : LaneId) (r : Recipe) (evs : List Event) : State :=
  let t := if evs.any (Event.enabled r) then s.setAlarm l else s
  if evs.any (Event.holds r) then t.setHold l else t

end Sys2Proof.Machine
end

