-- ==== Sys2Proof/Machine/CloseUnit.lean ====
section
/-!
DEFINITION. The close queue and the Close Unit (6.3, 6.4), with the commands CLOSE_WINDOW_WRITTEN,
MATERIALIZE_ROW_WRITTEN, SUMMARY_WRITTEN, POSTED_WRITTEN, LOT_SUMMARY_WRITTEN and LOT_POSTED_WRITTEN.
-/

namespace Sys2Proof.Machine

/-- The lot entry with a closing wafer's counts added (R113, step 4). -/
def Lot.add (t : Lot) (c : Ctx) : Lot :=
  { t with
    tested := t.tested + c.tested
    good := t.good + c.good
    bins := mapAll t.bins fun b n => n + c.bins[b] }

/-- Steps 4 and 5 of a context's item: the lot totals, and the summary write falls due (R113). -/
def State.closeTotals (s : State) (k : CtxId) : State :=
  { s.modLot s.ctxs[k].lot (Lot.add · s.ctxs[k]) with closeUnit := .summary }.addJob k .summary

/-- The trend words of an entry after an eligible wafer (R61). -/
def CacheEntry.trendUpdated (r : Recipe) (c : Ctx) (e : CacheEntry) : CacheEntry :=
  { e with
    trendE := trendNext r c e.trendE e.trendCnt
    trendCnt := min (e.trendCnt + 1) Config.trendCountMax
    dirty := true }

/-- Step 3 of a context's item (R112, R83): the comparison with the trend as it stands, the update, the assertion. -/
def State.closeTrend (s : State) (k : CtxId) : State :=
  let c := s.ctxs[k]
  let r := s.recipeFor k
  let e := s.entryOf c
  if sampleMet r c then
    let t := s.modEntry c.entry (CacheEntry.trendUpdated r c)
    if trendLow r c e.trendE e.trendCnt then
      let t := (t.modCtx k fun c => { c with latched := { c.latched with trend := true } }).raiseEvents c.lane r
        [⟨.trendLow, true⟩]
      if r.assertMask.trendLow then { t with closeUnit := .trendRewrite }.rewrite k .closeStep
      else t.closeTotals k
    else t.closeTotals k
  else s.closeTotals k

/-- Step 2 of a context's item: the next row to materialize, in ascending order, or step 3 (R112). -/
def State.closeRows (s : State) (k : CtxId) : State :=
  match (rowIds (s.recipeFor k)).find? fun y => !s.ctxs[k].rowsDone[y] with
  | some y => { s with closeUnit := .rows y }
  | none => s.closeTrend k

/-- A context's item begins (R112, step 1). A drain's writeback of the window that is still in flight comes first
(R23; assumption log 25). -/
def State.beginCtxItem (s : State) (k : CtxId) : State :=
  if (s.ctxs[k].dirty || s.ctxs[k].drainWrite) && s.ctxs[k].winRow.isSome then { s with closeUnit := .window } else s.closeRows k

/-- A lot entry's item begins: step 1, the lot floor (R114, R84), and its summary write. -/
def State.beginLotItem (s : State) (i : LotId) : State :=
  let t := s.lots[i]
  if lotLow t then
    let u := s.modLot i fun t => { t with lowFlag := true }
    let u := if t.assertFlag then u.setAlarm t.endingLane else u
    let u := if t.assertFlag && t.holdFlag then u.setHold t.endingLane else u
    { u with closeUnit := .lotSummary }
  else { s with closeUnit := .lotSummary }

/-- An IDLE Close Unit takes the item at the head (R111). -/
def State.serve (s : State) : State :=
  if s.closeUnit = .idle then
    match s.closeQ with
    | .ctx k :: _ => s.beginCtxItem k
    | .lot i :: _ => s.beginLotItem i
    | [] => s
  else s

/-- The item at the head is complete; the next begins at once (R111). -/
def State.nextItem (s : State) : State := { s with closeQ := s.closeQ.tail, closeUnit := .idle }.serve

/-- An item joins the tail (R110). -/
def State.enqueue (s : State) (i : CloseItem) : State := { s with closeQ := s.closeQ ++ [i] }.serve

/-- An OPEN context is enqueued for close (R8): its cause, both sides of its binding dropped, its live block rewritten. The
rewrite begins before the item is served, so where this one event also serves it up to its trend step, the contents are those
from before that step latches: DESIGN CHOICE, the spec does not order the two; unsafe; assumption log 33. -/
def State.closeContext (s : State) (k : CtxId) (cause : CloseCause) (why : RewriteFor) : State :=
  let t := s.modCtx k fun c => { c with state := .closing, cause := cause, bound := false, idleDue := false }
  ((t.modLane s.ctxs[k].lane fun n => { n with ctx := none }).rewrite k why).enqueue (.ctx k)

/-! ### Writes in flight -/

/-- The window's row as a write: offset and bytes (R14, R20). -/
def State.windowWrite (s : State) (k : CtxId) : Option (Nat × List Byte) :=
  match s.ctxs[k].winRow with
  | some y => some (s.rowAddr k (s.recipeFor k).cols y, rowBytes s.ctxs[k].cells)
  | none => none

/-- A row of the image as synthesis makes it, as a write (R22). -/
def State.synthWrite (s : State) (k : CtxId) (y : RowId) : Nat × List Byte :=
  (s.rowAddr k (s.recipeFor k).cols y, rowBytes (synthRow (s.recipeFor k) y))

/-- The Close Unit's own write in flight (slot writes are `slotWrite`). The window's is issued once no drain's writeback of
it is in flight (assumption log 25). -/
def State.closeWrite (s : State) : Option (Nat × List Byte) :=
  match s.closeUnit, s.closeQ with
  | .window, .ctx k :: _ => if s.ctxs[k].drainWrite then none else s.windowWrite k
  | .rows y, .ctx k :: _ => some (s.synthWrite k y)
  | .lotSummary, .lot i :: _ => some (s.lotAddr i + 64, s.lots[i].summary)
  | .lotPosting, .lot i :: _ => some (s.lotAddr i, postedWord)
  | _, _ => none

/-- Store a write, if there is one. -/
def State.storeOpt (s : State) : Option (Nat × List Byte) → State
  | some (a, bs) => s.store a bs
  | none => s

/-- The window has been written back: its row's bitmap entry is set and it is clean (R17, R19). -/
def Ctx.windowClean (c : Ctx) : Ctx :=
  match c.winRow with
  | some y => { c with rowsDone := c.rowsDone.set y true, dirty := false }
  | none => { c with dirty := false }

/-! ### Commands -/

/-- CLOSE_WINDOW_WRITTEN (R112, step 1). -/
def execCloseWindowWritten (s : State) : Host.Outcome State Fault Refusal :=
  match s.closeUnit, s.closeQ with
  | .window, .ctx k :: _ =>
    if s.working ∧ s.ctxs[k].drainWrite = false then
      .next (announce s (((s.storeOpt s.closeWrite).modCtx k Ctx.windowClean).closeRows k))
    else .next s
  | _, _ => .next s

/-- MATERIALIZE_ROW_WRITTEN (R112, step 2). -/
def execMaterializeRowWritten (s : State) : Host.Outcome State Fault Refusal :=
  match s.closeUnit, s.closeQ with
  | .rows y, .ctx k :: _ =>
    if s.working then
      .next (announce s (((s.storeOpt s.closeWrite).modCtx k fun c =>
        { c with rowsDone := c.rowsDone.set y true }).closeRows k))
    else .next s
  | _, _ => .next s

/-- SUMMARY_WRITTEN (R113, step 5): the POSTED write follows. -/
def execSummaryWritten (s : State) : Host.Outcome State Fault Refusal :=
  match s.closeUnit, s.closeQ with
  | .summary, .ctx k :: _ =>
    if s.working ∧ s.ctxs[k].slotPhase = some .summary then
      .next ({ ((s.storeOpt (s.slotWrite k)).dropJob k) with closeUnit := .posting }.addJob k .posted)
    else .next s
  | _, _ => .next s

/-- Completion of a context's item (R113, step 7): CLOSE, CLOSED, the pin's release, wafers-open. -/
def State.contextClosed (s : State) (k : CtxId) : State :=
  let c := s.ctxs[k]
  (((s.setClose c.lane).modCtx k fun c => { c with state := .closed }).releasePin c.entry).modLot c.lot fun t =>
    { t with wafersOpen := t.wafersOpen - 1 }

/-- Trend writebacks of a drain (R149, item 2): every dirty entry, once the Merge Engine is IDLE, no RETIRE is pending and
the close queue is empty. -/
def State.drainTrends (s : State) : State :=
  match s.command.progress with
  | .retirePending _ => s
  | _ =>
    if s.merge.isNone ∧ s.closeQ = [] ∧ s.closeUnit = .idle then
      { s with cache := mapAll s.cache fun _ c => if c.dirty then c.takeTrend (s.trendAddr c.number) else c }
    else s

/-- Window writebacks of a drain (R149, item 1): every dirty window of every OPEN context, once the Merge Engine is
IDLE. -/
def State.drainWindows (s : State) : State :=
  if s.merge.isNone then
    { s with ctxs := mapAll s.ctxs fun _ c =>
        if c.state = .opened ∧ c.dirty = true ∧ c.winRow.isSome = true then { c with drainWrite := true } else c }
  else s

/-- In DRAINING, the drain's work that has become due starts (R149). -/
def State.drainWork (s : State) : State :=
  if s.engine.run = .draining then s.drainWindows.drainTrends else s

/-- POSTED_WRITTEN (R113, steps 6 and 7). -/
def execPostedWritten (s : State) : Host.Outcome State Fault Refusal :=
  match s.closeUnit, s.closeQ with
  | .posting, .ctx k :: _ =>
    if s.working ∧ s.ctxs[k].slotPhase = some .posted then
      .next (announce s
        (((((s.storeOpt (s.slotWrite k)).dropJob k).kickSlot k).contextClosed k).nextItem.drainWork))
    else .next s
  | _, _ => .next s

/-- LOT_SUMMARY_WRITTEN (R114, step 2): the POSTED write follows. -/
def execLotSummaryWritten (s : State) : Host.Outcome State Fault Refusal :=
  match s.closeUnit, s.closeQ with
  | .lotSummary, .lot _ :: _ =>
    if s.working then .next { s.storeOpt s.closeWrite with closeUnit := .lotPosting } else .next s
  | _, _ => .next s

/-- LOT_POSTED_WRITTEN (R114, steps 3 and 4). -/
def execLotPostedWritten (s : State) : Host.Outcome State Fault Refusal :=
  match s.closeUnit, s.closeQ with
  | .lotPosting, .lot i :: _ =>
    if s.working then
      .next (announce s ((((s.storeOpt s.closeWrite).modLot i fun t =>
        { t with state := .posted }).setClose s.lots[i].endingLane).nextItem.drainWork))
    else .next s
  | _, _ => .next s

/-- DRAIN_WINDOW_WRITTEN of context k (R22). -/
def execDrainWindowWritten (k : CtxId) (s : State) : Host.Outcome State Fault Refusal :=
  if s.working ∧ s.ctxs[k].drainWrite = true then
    .next ((s.storeOpt (s.windowWrite k)).modCtx k fun c => { c.windowClean with drainWrite := false })
  else .next s

end Sys2Proof.Machine
end

