-- ==== Sys2Proof/Machine/Engine.lean ====
section
/-!
DEFINITION. Engine Control (chapter 8): writes in flight and where a fault or a reset stops them, faults, the start, the drain,
the resets and CLEAR, with the commands POWER_ON_RESET, PORT_RESET, RUN, CLEAR, COMMON_BASE, COMMON_HEADER_READ,
COLD_DESCRIPTOR_READ and DRAIN_END.
-/

namespace Sys2Proof.Machine

/-! ### Writes in flight -/

/-- The Merge Engine's write in flight (R20, R26, R107, R133). -/
def State.mergeWrite (s : State) (m : Merge) : Option (Nat × List Byte) :=
  let n := s.lanes[m.lane]
  match m.phase with
  | .rowWriteback _ =>
    match m.ctx with
    | some k => s.windowWrite k
    | none => none
  | .siteWord w _ => some (n.recordAddr m.half m.index + 20, leBytes 4 w.toNat)
  | .disposition c => some (n.recordAddr m.half m.index + 1, [c])
  | .lotLive i _ => some (s.lotAddr i, liveWord)
  | .slotLive k => some (s.slotAddr k, liveWord)
  | .faultedReturn => some (n.halfAddr m.half, returnedWord statusFaulted m.index)
  | _ => none

/-- The RETURNED write with which a look answers an unusable count (R129). -/
def Look.write (k : Look) : Option (Nat × List Byte) :=
  match k.phase with
  | .reading => none
  | .answerEmpty => some (k.addr, returnedWord statusEmpty 0)
  | .answerBadCount => some (k.addr, returnedWord statusFaulted 0)

/-- The RETURNED COMPLETE write of a half return (R135). -/
def Lane.returnWrite (n : Lane) : Option (Nat × List Byte) :=
  match n.ret, n.inService with
  | .writing, some v => some (n.halfAddr v.half, returnedWord statusComplete v.count)
  | _, _ => none

/-- The SKIPPED dispositions of a retired half's records not executed, in ascending index (R141, step 2). -/
def Lane.skippedCells (n : Lane) (v : InService) : List Host.Cell :=
  (List.range' v.next (v.count - v.next)).map fun i => (n.recordAddr v.half i + 1, dSkipped)

/-- The writes of a RETIRE carried out (R141, steps 2 and 3), as cells. -/
def State.retireCells (s : State) : List Host.Cell :=
  match s.command.progress with
  | .retireSkipping l =>
    match s.lanes[l].inService with
    | some v => s.lanes[l].skippedCells v
    | none => []
  | .retireReturning l =>
    match s.lanes[l].inService with
    | some v => cellsAt (s.lanes[l].halfAddr v.half) (returnedWord statusRetired v.count)
    | none => []
  | _ => []

/-- A write as cells. -/
def cellsOf : Option (Nat × List Byte) → List Host.Cell
  | some (a, bs) => cellsAt a bs
  | none => []

/-- Every byte that a write of the part in flight is storing. In FAULTED every write has already stopped (R151). -/
def State.inFlight (s : State) : List Host.Cell :=
  if s.engine.run = .faulted then []
  else
    (match s.merge with | some m => cellsOf (s.mergeWrite m) | none => []) ++
    s.lanes.toList.flatMap (fun n =>
      (match n.look with | some k => cellsOf k.write | none => []) ++ cellsOf n.returnWrite) ++
    s.retireCells ++
    (List.finRange 24).flatMap (fun k =>
      cellsOf (s.slotWrite k) ++ if s.ctxs[k].drainWrite then cellsOf (s.windowWrite k) else []) ++
    s.cache.toList.flatMap (fun c => match c.writing with | some t => cellsAt t.addr t.bytes | none => []) ++
    cellsOf s.closeWrite

/-- The write of this phase is that of a hand-over word (R107, R133). -/
def MergePhase.writesWord : MergePhase → Bool
  | .lotLive _ _ | .slotLive _ | .faultedReturn => true
  | .reading | .rowWriteback _ | .rowFetch _ | .awaitLive _ _ | .siteWord _ _ | .disposition _ => false

/-- The bytes of `inFlight` that belong to the hand-over word of a half, a summary slot or a lot slot (R170). -/
def State.wordCells (s : State) : List Host.Cell :=
  if s.engine.run = .faulted then []
  else
    (match s.merge with
      | some m => if m.phase.writesWord then cellsOf (s.mergeWrite m) else []
      | none => []) ++
    s.lanes.toList.flatMap (fun n =>
      (match n.look with | some k => cellsOf k.write | none => []) ++ cellsOf n.returnWrite) ++
    (match s.command.progress with | .retireReturning _ => s.retireCells | _ => []) ++
    (List.finRange 24).flatMap (fun k => if s.ctxs[k].slotPhase = some .posted then cellsOf (s.slotWrite k) else []) ++
    (if s.closeUnit = .lotPosting then cellsOf s.closeWrite else [])

/-- Every bit of `v` is that of `old` or that of `new`. -/
def mixes (old new v : Byte) : Bool := decide ((v ^^^ old) &&& (v ^^^ new) = 0)

/-- What an offset may hold where the writes in flight stop: a byte being stored there, or, of a hand-over word, a value with
part of the bits of the new byte and part of those of the old (R151, Table 8-5; assumption log 7). -/
def State.lands (s : State) (c : Host.Cell) : Bool :=
  s.inFlight.contains c || s.wordCells.any fun d => decide (d.1 = c.1) && mixes (Mem.read s.mem c.1) d.2 c.2

/-- The state whose writes in flight a fault lets land in part: the disposition of the record in merge is not among them, since
a record that a fault leaves unfinished receives none (R28). -/
def State.undisposed (s : State) : State :=
  match s.merge with
  | some m =>
    match m.phase with
    | .disposition _ => { s with merge := none }
    | _ => s
  | none => s

/-- The bytes of an even generation, the old or the new one, under which a port reset may leave the contents that a live block
rewrite is writing (Table 8-5): DESIGN CHOICE, R118's order of the three writes would leave an odd one; safe; assumption log
36. -/
def State.evenCells (s : State) : List Host.Cell :=
  if s.engine.run = .faulted then []
  else (List.finRange 24).flatMap fun k =>
    match s.ctxs[k].slotPhase with
    | some (.contents _) =>
      cellsAt (s.slotAddr k + 64) (leBytes 4 s.ctxs[k].generation.toNat) ++
        cellsAt (s.slotAddr k + 64) (leBytes 4 (s.ctxs[k].generation + 2).toNat)
    | _ => []

/-- What an offset may hold where a port reset stops the writes in flight (R155, Table 8-5). -/
def State.resetLands (s : State) (c : Host.Cell) : Bool := s.lands c || s.evenCells.contains c

/-- Memory when the writes in flight stop where they stand: of the bytes that `landed` lists, those that `may` land are stored,
in its order; every other offset keeps its byte (R151, R155; assumption log 7). -/
def State.memStopped (s : State) (may : Host.Cell → Bool) (landed : List Host.Cell) : Mem :=
  Mem.writeCells s.mem (landed.filter may)

/-! ### Faults -/

/-- A context whose record is left unfinished: its touchdown number is not recorded and its idle count not restarted (R28);
counts, site statistics, cells and monitor sets stay (assumption log 28). -/
def Ctx.undone (u : Undo) (c : Ctx) : Ctx :=
  { c with lastTouch := u.lastTouch, firstTouch := u.firstTouch, idleCount := u.idleCount }

/-- The contexts when the record in merge, if any, is left unfinished (R28). -/
def State.unfinished (s : State) : Vector Ctx 24 :=
  match s.merge with
  | some m =>
    match m.ctx, m.undo with
    | some k, some u => modAt s.ctxs k (Ctx.undone u)
    | _, _ => s.ctxs
  | none => s.ctxs

/-- The engine enters FAULTED from RUNNING or DRAINING (R151): every block keeps what it holds, but for what R28 says of the
record in merge. -/
def State.engineFault (s : State) (code : FaultCode) (landed : List Host.Cell) : State :=
  { s with
    mem := s.memStopped s.undisposed.lands landed
    ctxs := s.unfinished
    engine := { s.engine with run := .faulted, fault := code, stopPending := false, warmPending := false }
    flags := { s.flags with engine := true } }

/-! ### Resets and CLEAR -/

/-- Every register and all on-chip state at reset values; the commands that wait still wait (R154, R155). -/
def State.resetAll (s : State) (m : Mem) : State := { State.reset with mem := m, pending := s.pending }

/-- POWER_ON_RESET (R154). The part writes nothing; `dram` is how the DRAM's content then differs. -/
def execPowerOnReset (dram : List Host.Cell) (s : State) : Host.Outcome State Fault Refusal :=
  .next (s.resetAll (Mem.writeCells s.mem dram))

/-- PORT_RESET (R155). -/
def execPortReset (landed : List Host.Cell) (s : State) : Host.Outcome State Fault Refusal :=
  .next (s.resetAll (s.memStopped s.resetLands landed))

/-- CLEAR is taken (R152): STOPPED with no start in progress, or FAULTED. -/
def State.clearTaken (s : State) : Bool :=
  decide (s.engine.run = .faulted) || (decide (s.engine.run = .stopped) && decide (s.engine.start = .none))

/-- The state a CLEAR leaves (R152): COMMON_BASE, the interrupt enables and mode, PROBE_ADDR's address fields, PROBE_DATA
and the messages held are kept (R156, R163, R165). The probe direction is kept too: DESIGN CHOICE, the spec names it
neither among what CLEAR keeps nor among what it clears; unsafe; assumption log 30. -/
def State.cleared (s : State) (m : Mem) : State :=
  { State.reset with
    control := { s.control with run := false }
    common := s.common
    messages := s.messages
    probe := { s.probe with busy := false, err := false }
    readValue := s.readValue
    mem := m
    pending := s.pending }

/-- The CLEAR part of a CONTROL write (R152). -/
def State.clearPart (s : State) (landed : List Host.Cell) : State :=
  if s.clearTaken then s.cleared (s.memStopped s.lands landed) else s.refuse

/-- CLEAR (R152). -/
def execClear (landed : List Host.Cell) (s : State) : Host.Outcome State Fault Refusal := .next (s.clearPart landed)

/-! ### RUN -/

/-- RUNNING becomes DRAINING (R148): the rescan flag is cleared, no idle expiry follows, the drain's work starts. -/
def State.beginDrain (s : State) : State :=
  { s with
    engine := { s.engine with run := .draining, warmPending := false }
    scan := { s.scan with rescan := false }
    ctxs := mapAll s.ctxs fun _ c => { c with idleDue := false } }.drainWork

/-- RUN written as 1 (R144). -/
def State.runOn (s : State) : State :=
  match s.engine.run with
  | .stopped =>
    if s.engine.start ≠ .none then { s with engine := { s.engine with stopPending := false } }
    else if s.engine.configured then { s with engine := { s.engine with run := .running } }
    else { s with engine := { s.engine with start := .header, stopPending := false } }
  | .draining => { s with engine := { s.engine with warmPending := true } }
  | .running | .faulted => s

/-- RUN written as 0 (R144). -/
def State.runOff (s : State) : State :=
  match s.engine.run with
  | .stopped => if s.engine.start ≠ .none then { s with engine := { s.engine with stopPending := true } } else s
  | .running => s.beginDrain
  | .draining => { s with engine := { s.engine with warmPending := false } }
  | .faulted => s

/-- The RUN part of a CONTROL write: the field holds the value written (R144, R157). -/
def State.runPart (s : State) (v : Bool) : State :=
  let t := { s with control := { s.control with run := v } }
  if v then t.runOn else t.runOff

/-- RUN (R144). -/
def execRun (value : Bool) (s : State) : Host.Outcome State Fault Refusal := .next (s.runPart value)

/-! ### Cold start -/

/-- The common header is unreadable or fails a check (R145). -/
def State.commonFault (s : State) : State :=
  { s with
    engine := { s.engine with run := .faulted, fault := .badCommon, start := .none, stopPending := false, warmPending := false }
    flags := { s.flags with engine := true } }

/-- COMMON_HEADER_READ (R145). -/
def execCommonHeaderRead (bad : Bool) (s : State) : Host.Outcome State Fault Refusal :=
  if s.engine.run = .stopped ∧ s.engine.start = .header then
    let h := headerOf (memSrc s.mem s.common.toNat)
    if bad = false ∧ headerOk s.common.toNat h = true then
      .next { s with engine := { s.engine with config := configOf h, start := .descriptor 0 } }
    else .next (announce s s.commonFault)
  else .next s

/-- A valid descriptor is copied into a lane, which becomes IDLE on half A (R139, R146). -/
def Lane.enabledBy (n : Lane) (d : Descriptor) : Lane :=
  { n with
    state := .idle
    expected := .a
    inService := none
    cause := .none
    priority := d.priority
    capacity := d.capacity
    halfA := d.halfA
    halfB := d.halfB }

/-- A lane as its descriptor decides at cold start (R146). -/
def State.coldLane (s : State) (l : LaneId) (bad : Bool) (d : Descriptor) : State :=
  if bad then s.laneFault l .memLane
  else if d.enabled then
    if d.ok then s.modLane l (Lane.enabledBy · d) else s.laneFault l .badDescriptor
  else s.modLane l fun n => { n with state := .disabled }

/-- The start completes (R146): RUNNING, or DRAINING when a stop is pending. -/
def State.startDone (s : State) : State :=
  let t := { s with
    engine := { s.engine with configured := true, start := .none, stopPending := false, run := .running } }
  if s.engine.stopPending then t.beginDrain else t

/-- The lane after `l` in the start, if any. -/
def nextLane (l : LaneId) : Option LaneId := if h : l.val + 1 < 16 then some ⟨l.val + 1, h⟩ else none

/-- COLD_DESCRIPTOR_READ (R146). -/
def execColdDescriptorRead (bad : Bool) (s : State) : Host.Outcome State Fault Refusal :=
  match s.engine.start with
  | .descriptor l =>
    if s.engine.run = .stopped then
      let t := s.coldLane l bad (descriptorOf (memSrc s.mem (s.descriptorAddr l)))
      match nextLane l with
      | some l' => .next (announce s { t with engine := { t.engine with start := .descriptor l' } })
      | none => .next (announce s t.startDone)
    else .next s
  | _ => .next s

/-! ### The end of a drain -/

/-- No memory operation of any block is in flight, and none waits (R149). -/
def State.quiet (s : State) : Bool :=
  s.merge.isNone && decide (s.scan.pass = none) && decide (s.command.progress = .none) &&
    s.lanes.toList.all (fun n => n.look.isNone && decide (n.ret = .none)) &&
    s.ctxs.toList.all (fun c => c.jobs.isEmpty && c.slotPhase.isNone && !c.drainWrite) &&
    s.cache.toList.all (fun c => c.writing.isNone && decide (c.state ≠ .loading))

/-- The drain's work is done (R149). -/
def State.drained (s : State) : Bool :=
  s.quiet && s.closeQ.isEmpty && decide (s.closeUnit = .idle) &&
    s.ctxs.toList.all (fun c => !(decide (c.state = .opened) && c.dirty)) &&
    s.cache.toList.all (fun c => !c.dirty)

/-- DRAIN_END (R149): STOPPED with DRAINED, or a warm start when one is pending. -/
def execDrainEnd (s : State) : Host.Outcome State Fault Refusal :=
  if s.engine.run = .draining ∧ s.drained = true then
    if s.engine.warmPending then .next { s with engine := { s.engine with run := .running, warmPending := false } }
    else
      .next (announce s { s with
        engine := { s.engine with run := .stopped }
        flags := { s.flags with drained := true } })
  else .next s

/-! ### COMMON_BASE -/

/-- A COMMON_BASE write is taken (R153). -/
def State.commonBaseTaken (s : State) : Bool :=
  decide (s.engine.run = .stopped) && !s.engine.configured && decide (s.engine.start = .none)

/-- COMMON_BASE's write (R153). -/
def State.commonBasePart (s : State) (v : Word) : State := if s.commonBaseTaken then { s with common := v } else s.refuse

/-- COMMON_BASE (R153). -/
def execCommonBase (value : Word) (s : State) : Host.Outcome State Fault Refusal := .next (s.commonBasePart value)

end Sys2Proof.Machine
end

