-- ==== Sys2Proof/Machine/Scan.lean ====
section
/-!
DEFINITION. The Lane Scanner and looks (7.3), with the commands SCAN_NOW, SCAN_TIMER_EXPIRY, LOOK, LOOK_RETURN_WRITTEN,
SUMMARY_SLOT_READ and LOT_SLOT_READ.
-/

namespace Sys2Proof.Machine

/-! ### Passes -/

/-- The order of a pass (R128): lanes, contexts, lot entries, each ascending. -/
def passOrder : List PassPos :=
  (List.finRange 16).map .lane ++ (List.finRange 24).map .ctx ++ (List.finRange 8).map .lot

/-- The place of a position in the order. -/
def PassPos.rank : PassPos → Nat
  | .lane l => l.val
  | .ctx k => 16 + k.val
  | .lot i => 40 + i.val

/-- A pass that reaches the position makes its read (R128). A lane whose RETIRE only waits to be carried out is passed by
(assumption log 12). -/
def State.passWants (s : State) : PassPos → Bool
  | .lane l =>
    decide (s.lanes[l].state = .idle) && s.lanes[l].inService.isNone && s.lanes[l].look.isNone && !s.retirePending l
  | .ctx k => decide (s.ctxs[k].state = .closed)
  | .lot i => decide (s.lots[i].state = .posted)

/-- A look at lane `l`'s expected half is issued (R129). -/
def State.issueLook (s : State) (l : LaneId) (fromPass : Bool) : State :=
  s.modLane l fun n => { n with look := some ⟨n.expected, n.halfAddr n.expected, fromPass, false, .reading⟩ }

/-- The pass issues the read of a position. -/
def State.issueAt (s : State) (p : PassPos) : State :=
  let t := { s with scan := { s.scan with pass := some p } }
  match p with
  | .lane l => t.issueLook l true
  | _ => t

/-- The pass goes on over the positions `ps`; with nothing left to read it completes. -/
def State.passOver (s : State) (ps : List PassPos) : State :=
  match ps.find? s.passWants with
  | some p => s.issueAt p
  | none => { s with scan := { s.scan with pass := none } }

/-- A pass starts (R127). -/
def State.startPass (s : State) : State := s.passOver passOrder

/-- The read at `p` has been acted on (R128): the pass goes on, stops when the engine is no longer RUNNING, or completes,
and another starts at once when the rescan flag is set (R127). -/
def State.passNext (s : State) (p : PassPos) : State :=
  if s.engine.run = .running then
    let t := s.passOver (passOrder.drop (p.rank + 1))
    if t.scan.pass = none ∧ t.scan.rescan = true then { t with scan := { t.scan with rescan := false } }.startPass else t
  else { s with scan := { s.scan with pass := none } }

/-- The SCAN_NOW part of a CONTROL write (R127). -/
def State.scanNowPart (s : State) : State :=
  if s.engine.run = .running then
    if s.scan.pass.isSome then { s with scan := { s.scan with rescan := true } } else s.startPass
  else s

/-- SCAN_NOW (R127). -/
def execScanNow (s : State) : Host.Outcome State Fault Refusal := .next s.scanNowPart

/-- The scan timer reaches the interval and its count restarts at 0 (R127). -/
def State.timerExpires (s : State) : State :=
  let t := { s with scan := { s.scan with timer := 0 } }
  if s.scan.pass.isSome then t else t.startPass

/-- SCAN_TIMER_EXPIRY (R127); the timer counts in RUNNING alone. -/
def execScanTimerExpiry (s : State) : Host.Outcome State Fault Refusal :=
  if s.engine.run = .running then .next s.timerExpires else .next s

/-! ### Looks -/

/-- A chained look at lane `l`'s expected half (R129, R135): only while RUNNING, not with a RETIRE pending, and not with a
look in flight (R130). -/
def State.chainLook (s : State) (l : LaneId) : State :=
  if s.engine.run = .running ∧ s.retirePending l = false ∧ s.lanes[l].look = none then s.issueLook l false else s

/-- The look in flight is done; a pass that made it goes on (R128). -/
def State.lookDone (s : State) (l : LaneId) (fromPass : Bool) : State :=
  if fromPass then s.passNext (.lane l) else s

def State.clearLook (s : State) (l : LaneId) : State := s.modLane l fun n => { n with look := none }

/-- A look's RETURNED write is issued (R129). -/
def State.answerLook (s : State) (l : LaneId) (k : Look) (p : LookPhase) : State :=
  s.modLane l fun n => { n with look := some { k with phase := p } }

/-- The action of a look whose read has returned (Table 7-4). -/
def State.lookAction (s : State) (l : LaneId) (k : Look) (bad : Bool) : State :=
  let code := get8 (memSrc s.mem k.addr) 0
  let count := get16 (memSrc s.mem k.addr) 2
  if k.void then (s.clearLook l).lookDone l k.fromPass
  else if bad then ((s.clearLook l).laneFault l .memLane).lookDone l k.fromPass
  else if code = codeIdle ∨ code = codeReturned then (s.clearLook l).lookDone l k.fromPass
  else if code = codeOffered then
    if count = 0 then s.answerLook l k .answerEmpty
    else if count ≤ s.lanes[l].capacity then
      ((s.clearLook l).modLane l fun n =>
        { n with state := .ready, inService := some ⟨k.half, 0, count⟩ }).lookDone l k.fromPass
    else s.answerLook l k .answerBadCount
  else ((s.clearLook l).laneFault l .badHandover).lookDone l k.fromPass

/-- LOOK (R129). -/
def execLook (l : LaneId) (bad : Bool) (s : State) : Host.Outcome State Fault Refusal :=
  match s.lanes[l].look with
  | some k => if s.working ∧ k.phase = .reading then .next (announce s (s.lookAction l k bad)) else .next s
  | none => .next s

/-- What follows the completion of a look's RETURNED write (R129); nothing when the lane has left IDLE (R130). -/
def State.lookAnswered (s : State) (l : LaneId) (k : Look) : State :=
  let t := s.clearLook l
  if k.void then t
  else
    match k.phase with
    | .answerEmpty => ((t.modLane l fun n => { n with expected := n.expected.other }).setHandback l).chainLook l
    | .answerBadCount => t.laneFault l .badCount
    | .reading => t

/-- LOOK_RETURN_WRITTEN (R129). -/
def execLookReturnWritten (l : LaneId) (s : State) : Host.Outcome State Fault Refusal :=
  match s.lanes[l].look with
  | some k =>
    if s.working ∧ k.phase ≠ .reading then
      .next (announce s (((s.storeOpt k.write).lookAnswered l k).lookDone l k.fromPass))
    else .next s
  | none => .next s

/-! ### Slot reads (R121) -/

/-- SUMMARY_SLOT_READ of context k (R121, R10). -/
def execSummarySlotRead (k : CtxId) (r : ReadEnd) (s : State) : Host.Outcome State Fault Refusal :=
  if s.working ∧ s.scan.pass = some (.ctx k) then
    match r with
    | .uncorrectable landed => .next (announce s (s.engineFault .memSummary landed))
    | .returned =>
      if get8 (memSrc s.mem (s.slotAddr k)) 0 = codeCollected then
        .next (((s.modCtx k fun c => { c with state := .free }).wakeContext).passNext (.ctx k))
      else .next (s.passNext (.ctx k))
  else .next s

/-- LOT_SLOT_READ of lot entry i (R121). -/
def execLotSlotRead (i : LotId) (r : ReadEnd) (s : State) : Host.Outcome State Fault Refusal :=
  if s.working ∧ s.scan.pass = some (.lot i) then
    match r with
    | .uncorrectable landed => .next (announce s (s.engineFault .memSummary landed))
    | .returned =>
      if get8 (memSrc s.mem (s.lotAddr i)) 0 = codeCollected then
        .next ((s.modLot i fun t => { t with state := .free }).passNext (.lot i))
      else .next (s.passNext (.lot i))
  else .next s

end Sys2Proof.Machine
end

