-- ==== Sys2Proof/Machine/Lanes.lean ====
section
/-!
DEFINITION. Lane commands and half returns (7.5, 7.6), with the commands ENABLE, DISABLE, HOLD, RELEASE, RETIRE, BAD_COMMAND,
ENABLE_DESCRIPTOR_READ, RETIRE_CARRY_OUT, SKIPPED_WRITTEN, RETIRE_RETURN_WRITTEN and HALF_RETURN_WRITTEN.
-/

namespace Sys2Proof.Machine

/-- Codes of the five lane commands (R173). -/
def cmdEnable : CmdCode := 1
def cmdDisable : CmdCode := 2
def cmdHold : CmdCode := 3
def cmdRelease : CmdCode := 4
def cmdRetire : CmdCode := 5

/-- The readback takes a command with its outcome, none being in progress (R138, R159). -/
def State.readback (s : State) (code : CmdCode) (l : LaneId) (o : Outcome) : State :=
  { s with command := ⟨code, l, o, .none⟩ }

/-- The readback of a command taken and in progress. -/
def State.progressing (s : State) (code : CmdCode) (l : LaneId) (p : CmdProgress) : State :=
  { s with command := ⟨code, l, .pending, p⟩ }

/-- The command in progress is finished (R139, R141). -/
def State.commandDone (s : State) : State :=
  { s with command := { s.command with outcome := .done, progress := .none } }

/-- A command is in progress (R138). -/
def State.commandBusy (s : State) : Bool := decide (s.command.progress ≠ .none)

/-! ### RETIRE -/

/-- A look in flight takes none of its action once its lane has left IDLE (R130). -/
def Lane.voidLook (n : Lane) : Lane := { n with look := n.look.map fun k => { k with void := true } }

/-- The lane's own part of step 1 (R141): DISABLED, its hold clear, a look in flight void (R130). -/
def Lane.retired (n : Lane) : Lane := { n.voidLook with state := .disabled, hold := false }

/-- The lane leaves every waiter set, and the lanes in WAIT_RECIPE wake when that frees an entry (R95, R99). -/
def State.dropWaiter (s : State) (l : LaneId) : State :=
  (s.leaveWaiters l).wakeRecipeIf (candidateFreed s (s.leaveWaiters l) l)

/-- Step 1 of a RETIRE (R141): the lane is DISABLED, leaves the waiter sets and drops its hold, and its bound context is
enqueued for close. A hold that the close item itself raises in the same event comes after and stands (R76). -/
def State.retireStep1 (s : State) (l : LaneId) : State :=
  let t := (s.modLane l Lane.retired).dropWaiter l
  match s.lanes[l].ctx with
  | some k => t.closeContext k .retired .nothing
  | none => t

/-- A RETIRE of lane `l` is carried out (R141): step 1, then the SKIPPED writes, or DONE with no half in service. -/
def State.carryOut (s : State) (l : LaneId) : State :=
  let t := s.retireStep1 l
  if t.lanes[l].inService.isSome then t.progressing cmdRetire l (.retireSkipping l)
  else t.readback cmdRetire l .done

/-- A record of lane `l` is in merge, or the return of its half is in flight (R141). -/
def State.retireMustWait (s : State) (l : LaneId) : Bool :=
  (match s.merge with | some m => decide (m.lane = l) | none => false) || decide (s.lanes[l].ret ≠ .none)

def State.retireTaken (s : State) (l : LaneId) : State :=
  if s.retireMustWait l then s.progressing cmdRetire l (.retirePending l) else s.carryOut l

/-- RETIRE_CARRY_OUT (R141). -/
def execRetireCarryOut (s : State) : Host.Outcome State Fault Refusal :=
  match s.command.progress with
  | .retirePending l =>
    if s.working ∧ s.retireMustWait l = false then .next (announce s (s.carryOut l).drainWork) else .next s
  | _ => .next s

/-- The next record index has moved past the records disposed SKIPPED (R137), past all of them when the last write completes:
DESIGN CHOICE, the spec does not say where it stands when a fault stops these writes partway; unsafe; assumption log 35. -/
def Lane.skipped (n : Lane) : Lane :=
  { n with inService := n.inService.map fun v => { v with next := v.next + (v.count - v.next) } }

/-- SKIPPED_WRITTEN (R141, step 2; R137). -/
def execSkippedWritten (s : State) : Host.Outcome State Fault Refusal :=
  match s.command.progress with
  | .retireSkipping l =>
    if s.working then
      .next { (s.storeCells s.retireCells).modLane l Lane.skipped with
        command := { s.command with progress := .retireReturning l } }
    else .next s
  | _ => .next s

/-- RETIRE_RETURN_WRITTEN (R141, steps 3 and 4). -/
def execRetireReturnWritten (s : State) : Host.Outcome State Fault Refusal :=
  match s.command.progress with
  | .retireReturning l =>
    if s.working then
      .next (announce s ((((s.storeCells s.retireCells).modLane l fun n =>
        { n with inService := none }).setHandback l).commandDone.drainWork))
    else .next s
  | _ => .next s

/-! ### The write of LANE_COMMAND (R138) -/

/-- The conditions and effects of Table 7-6, for a command that is one of the five, in RUNNING, none in progress. -/
def State.laneCommandTaken (s : State) (code : CmdCode) (l : LaneId) : State :=
  if code = cmdEnable then
    if s.lanes[l].state = .disabled then s.progressing code l (.enabling l) else s.readback code l .notDisabled
  else if code = cmdDisable then
    if s.lanes[l].inService = none ∧ s.lanes[l].ctx = none then
      (s.modLane l fun n => { n.voidLook with state := .disabled }).readback code l .done
    else s.readback code l .laneBusy
  else if code = cmdHold then (s.modLane l fun n => { n with hold := true }).readback code l .done
  else if code = cmdRelease then (s.modLane l fun n => { n with hold := false }).readback code l .done
  else if s.lanes[l].state = .disabled then s.readback code l .notActive
  else s.retireTaken l

/-- The Lane Table's decision on a LANE_COMMAND write (R138, in its order). -/
def State.laneCommand (s : State) (code : CmdCode) (l : LaneId) : State :=
  if s.commandBusy then s.refuse
  else if code = 0 ∨ code = 6 ∨ code = 7 then s.readback code l .badCommand
  else if s.engine.run ≠ .running then s.readback code l .engineNotRunning
  else s.laneCommandTaken code l

/-- ENABLE (R139). -/
def execEnable (lane : LaneId) (s : State) : Host.Outcome State Fault Refusal := .next (s.laneCommand cmdEnable lane)

/-- DISABLE (R140). -/
def execDisable (lane : LaneId) (s : State) : Host.Outcome State Fault Refusal := .next (s.laneCommand cmdDisable lane)

/-- HOLD (R140). -/
def execHold (lane : LaneId) (s : State) : Host.Outcome State Fault Refusal := .next (s.laneCommand cmdHold lane)

/-- RELEASE (R140). -/
def execRelease (lane : LaneId) (s : State) : Host.Outcome State Fault Refusal := .next (s.laneCommand cmdRelease lane)

/-- RETIRE (R141). -/
def execRetire (lane : LaneId) (s : State) : Host.Outcome State Fault Refusal :=
  .next (announce s (s.laneCommand cmdRetire lane))

/-- BAD_COMMAND (R138). -/
def execBadCommand (code : CmdCode) (lane : LaneId) (s : State) : Host.Outcome State Fault Refusal :=
  .next (announce s (s.laneCommand code lane))

/-- A lane as the descriptor read of its ENABLE decides (R139). -/
def State.enableLane (s : State) (l : LaneId) (bad : Bool) (d : Descriptor) : State :=
  if bad then s.laneFault l .memLane
  else if d.ok then s.modLane l (Lane.enabledBy · d)
  else s.laneFault l .badDescriptor

/-- ENABLE_DESCRIPTOR_READ (R139). -/
def execEnableDescriptorRead (bad : Bool) (s : State) : Host.Outcome State Fault Refusal :=
  match s.command.progress with
  | .enabling l =>
    if s.working then
      .next (announce s (s.enableLane l bad (descriptorOf (memSrc s.mem (s.descriptorAddr l)))).commandDone)
    else .next s
  | _ => .next s

/-! ### Half returns (R135) -/

/-- Step 3 and 4 of a return: the half leaves service, the expected half toggles, HANDBACK, the chained look. -/
def State.finishReturn (s : State) (l : LaneId) : State :=
  ((s.modLane l fun n => { n with inService := none, expected := n.expected.other, ret := .none }).setHandback l).chainLook l

/-- Step 2 of a return: the live block of the bound context is rewritten, or step 3 follows at once. -/
def State.returnWritten (s : State) (l : LaneId) : State :=
  match s.lanes[l].ctx with
  | some k => (s.modLane l fun n => { n with ret := .rewriting }).rewrite k (.halfReturn l)
  | none => s.finishReturn l

/-- HALF_RETURN_WRITTEN (R135, step 1). -/
def execHalfReturnWritten (l : LaneId) (s : State) : Host.Outcome State Fault Refusal :=
  if s.working ∧ s.lanes[l].ret = .writing then
    .next (announce s ((s.storeOpt s.lanes[l].returnWrite).returnWritten l))
  else .next s

end Sys2Proof.Machine
end

