-- ==== Sys2Proof/Machine/MergeEngine.lean ====
section
/-!
DEFINITION. The Merge Engine (chapter 2), with the commands GRANT, TOUCHDOWN, ADJUST, CLOSE, LOT_END, NOP, BAD_KIND,
RECORD_READ_ERROR, ROW_WRITEBACK_DONE, ROW_FETCH_DONE, SITE_WORD_WRITTEN, DISPOSITION_WRITTEN and
HALF_FAULTED_RETURN_WRITTEN.
-/

namespace Sys2Proof.Machine

/-! ### The row window (R18 to R20) -/

/-- The window with row `y` synthesized: dirty (R18). -/
def Ctx.synthesized (r : Recipe) (c : Ctx) (y : RowId) : Ctx :=
  { c with winRow := some y, dirty := true, cells := synthRow r y }

/-- What bringing a row in needs: nothing more, a writeback first, or a fetch (R20). -/
inductive RowNeed where
  | here (c : Ctx)
  | writeback
  | fetch (c : Ctx)

/-- Steps 2 and 3 of R20, for a window that is empty or clean: a materialized row is fetched, the window row becoming none
when the read is issued; any other row is synthesized. -/
def bringClean (r : Recipe) (c : Ctx) (y : RowId) : RowNeed :=
  if c.rowsDone[y] then .fetch { c with winRow := none } else .here (c.synthesized r y)

/-- Bringing row `y` into the window (R20). -/
def bringRow (r : Recipe) (c : Ctx) (y : RowId) : RowNeed :=
  if c.winRow = some y then .here c
  else if c.winRow.isSome && c.dirty then .writeback
  else bringClean r c y

/-! ### One site (R33 to R38) -/

/-- The fold of a soft bin: the code, and whether a range gave it (R33). -/
def foldBin (r : Recipe) (soft : Nat) : BinCode × Bool :=
  match r.folds.find? fun f => decide (f.lo ≤ soft) && decide (soft ≤ f.hi) with
  | some f => (f.code, true)
  | none => (r.stray, false)

/-- Class PASS of a code. -/
def Recipe.isPass (r : Recipe) (b : BinCode) : Bool := (r.bins[b]).pass

/-- The site statistics of site `i` for a folded code (R34). -/
def siteStats (r : Recipe) (c : Ctx) (i : SiteId) (b : BinCode) : Ctx :=
  { c with
    siteTested := if c.siteTested[i] < Config.siteMax then modAt c.siteTested i (· + 1) else c.siteTested
    sitePass :=
      if c.siteTested[i] < Config.siteMax ∧ r.isPass b = true then modAt c.sitePass i (· + 1) else c.sitePass
    run := modAt c.run i fun n => if r.isPass b then 0 else min (n + 1) Config.runMax }

/-- Die counts when a cell first takes a code (R35, R45). -/
def countNew (r : Recipe) (c : Ctx) (b : BinCode) : Ctx :=
  { c with
    bins := modAt c.bins b (· + 1)
    tested := c.tested + 1
    good := c.good + (r.isPass b).toNat }

/-- Die counts when a cell's standing code changes (R37); the same code moves none. -/
def countMove (r : Recipe) (c : Ctx) (old new : BinCode) : Ctx :=
  if old = new then c
  else
    { c with
      bins := modAt (modAt c.bins old (· - 1)) new (· + 1)
      good := c.good - (r.isPass old).toNat + (r.isPass new).toNat }

/-- The standing code of a retest (R36). -/
def standing (r : Recipe) (old new : BinCode) : BinCode :=
  match r.policy with
  | .last => new
  | .best => if (r.bins[old]).rank < (r.bins[new]).rank then old else new
  | .passSticky => if r.isPass old then old else new

/-- A cell's touches stop at 3 (R35). -/
def touchUp (t : Fin 4) : Fin 4 := if t = 3 then 3 else t + 1

/-- The cell after a site's result (R35, R36, R38). -/
def cellAfter (r : Recipe) (cell : MapCell) (i : SiteId) (b : BinCode) : MapCell :=
  match cell.state with
  | .empty => ⟨.binned, b, touchUp cell.touches, i⟩
  | .binned =>
    if standing r cell.code b = cell.code then { cell with touches := touchUp cell.touches }
    else { cell with code := standing r cell.code b, touches := touchUp cell.touches, site := i }
  | .adjusted | .outside => { cell with touches := touchUp cell.touches }

/-- The die counts after a site's result (R35 to R38). -/
def countSite (r : Recipe) (c : Ctx) (cell : MapCell) (b : BinCode) : Ctx :=
  match cell.state with
  | .empty => countNew r c b
  | .binned => countMove r { c with retests := min (c.retests + 1) Config.touchMax } cell.code (standing r cell.code b)
  | .adjusted => { c with retests := min (c.retests + 1) Config.touchMax }
  | .outside => c

/-- The window's cell in column `x`. -/
def Ctx.cellAt (c : Ctx) (x : Nat) : MapCell := c.cells.getD x outsideCell

/-- The cell update of a site (R35); every site that reaches it leaves the window dirty. -/
def cellUpdate (r : Recipe) (c : Ctx) (x : Nat) (i : SiteId) (b : BinCode) : Ctx :=
  { countSite r c (c.cellAt x) b with
    touches := min (c.touches + 1) Config.touchMax
    cells := c.cells.set x (cellAfter r (c.cellAt x) i b)
    dirty := true }

/-- One site on the map whose row is in the window: fold, statistics, cell (R33 to R38). -/
def mergeSite (r : Recipe) (bs : List Byte) (i : SiteId) (x : Nat) (c : Ctx) : Ctx :=
  let b := (foldBin r (tdSoft bs i)).1
  cellUpdate r (siteStats r c i b) x i b

/-- The site disposition of a merged site (R33). -/
def mergedDisp (r : Recipe) (bs : List Byte) (i : SiteId) : SiteDisp :=
  if (foldBin r (tdSoft bs i)).2 then .merged else .mergedStray

/-! ### The sites of a TOUCHDOWN (R31) -/

/-- A present site: its mask entry is set and it is below the site count. -/
def present (r : Recipe) (bs : List Byte) (i : SiteId) : Bool := tdMask bs i && decide (i.val < r.siteCount)

/-- The die of site `i` (R32). -/
def siteDie (r : Recipe) (bs : List Byte) (i : SiteId) : Option (Nat × RowId) :=
  onMap r (tdX bs + (r.offsets.getD i.val (0, 0)).1) (tdY bs + (r.offsets.getD i.val (0, 0)).2)

/-- Where the resolution of sites stands: done, or stopped at a site whose row needs a writeback or a fetch. -/
inductive SitesEnd where
  | done (c : Ctx) (ds : List SiteDisp)
  | writeback (c : Ctx) (ds : List SiteDisp) (y : RowId)
  | fetch (c : Ctx) (ds : List SiteDisp) (y : RowId)

/-- The sites in turn (R31); `ds` holds the dispositions decided before. -/
def runSites (r : Recipe) (bs : List Byte) : List SiteId → Ctx → List SiteDisp → SitesEnd
  | [], c, ds => .done c ds
  | i :: is, c, ds =>
    if present r bs i then
      match siteDie r bs i with
      | none => runSites r bs is c (ds ++ [.offMap])
      | some (x, y) =>
        match bringRow r c y with
        | .here c' => runSites r bs is (mergeSite r bs i x c') (ds ++ [mergedDisp r bs i])
        | .writeback => .writeback c ds y
        | .fetch c' => .fetch c' ds y
    else runSites r bs is c (ds ++ [.absent])

/-! ### Ending a merge -/

/-- The disposition byte's write is issued (R26). -/
def State.dispose (s : State) (m : Merge) (code : Byte) : State :=
  { s with merge := some { m with phase := .disposition code } }

/-- The writes that end a merge: the site disposition word, if any, then the disposition byte (R26). -/
def State.conclude (s : State) (m : Merge) (word : Option Word) (code : Byte) : State :=
  match word with
  | some w => { s with merge := some { m with phase := .siteWord w code } }
  | none => s.dispose m code

/-- A rewrite of context `k`'s live block that the merge waits for, before it concludes (R73, R107, R108). -/
def State.awaitRewrite (s : State) (m : Merge) (k : CtxId) (word : Option Word) (code : Byte) : State :=
  { s with merge := some { m with phase := .awaitLive word code } }.rewrite k .merge

/-- The evaluation of a count-changing record of context `k`, and the writes that follow (R43, R68 to R75). -/
def State.evaluateMerge (s : State) (m : Merge) (k : CtxId) (word : Option Word) (code : Byte) : State :=
  let r := s.recipeFor k
  let c := s.ctxs[k]
  let evs := evaluationEvents c.active (nextActiveSet r c)
  let t := (s.modCtx k (evaluated r)).raiseEvents c.lane r evs
  if evs.any (Event.enabled r) then t.awaitRewrite m k word code else t.conclude m word code

/-- The merge is complete (R26): the in-merge flag is cleared and the engine is IDLE. -/
def State.endMerge (s : State) (m : Merge) : State :=
  let t := match m.ctx with
    | some k => s.modCtx k fun c => { c with inMerge := false }
    | none => s
  { t with merge := none }

/-! ### TOUCHDOWN and ADJUST -/

/-- An accepted record's touchdown number, and the idle timer's restart (R41). -/
def Ctx.touchRecorded (bs : List Byte) (c : Ctx) : Ctx :=
  { c with
    lastTouch := tdNumber bs
    firstTouch := some (c.firstTouch.getD (tdNumber bs))
    idleCount := 0
    idleDue := false }

/-- The merge of a record that has been accepted: what R28 brings back should a fault leave it unfinished, as context `c`
held it before the record changed it. -/
def Merge.accepted (m : Merge) (c : Ctx) : Merge := { m with undo := some ⟨c.lastTouch, c.firstTouch, c.idleCount⟩ }

/-- The outcome of a TOUCHDOWN whose sites are all resolved (R40 to R43): its touchdown number is recorded and the idle count
restarted here, before the writes that follow (R41, Table 2-2 step 5). -/
def State.touchdownEnd (s : State) (m : Merge) (k : CtxId) : State :=
  if m.disps.any fun d => decide (d = .merged) || decide (d = .mergedStray) then
    (s.modCtx k (Ctx.touchRecorded m.bytes)).evaluateMerge (m.accepted s.ctxs[k]) k (some (BitVec.ofNat 32 (siteWordOf m.disps)))
      (if SiteDisp.offMap ∈ m.disps then dPartial else dAccepted)
  else s.dispose m dOffMap

/-- The sites of a TOUCHDOWN from the one it has reached (R31). -/
def State.continueTouchdown (s : State) (m : Merge) (k : CtxId) : State :=
  match runSites (s.recipeFor k) m.bytes ((List.finRange 16).drop m.disps.length) s.ctxs[k] m.disps with
  | .done c ds => (s.modCtx k fun _ => c).touchdownEnd { m with disps := ds } k
  | .writeback c ds y =>
    { s.modCtx k (fun _ => c) with merge := some { m with disps := ds, phase := .rowWriteback y } }
  | .fetch c ds y => { s.modCtx k (fun _ => c) with merge := some { m with disps := ds, phase := .rowFetch y } }

/-- The cell an ADJUST leaves (R45). -/
def adjustedCell (cell : MapCell) (b : BinCode) : MapCell := { cell with state := .adjusted, code := b }

/-- The context after an ADJUST of the cell in column `x` of the window's row (R45, R46). The idle count restarts here, before
the writes that follow; a fault that leaves the record unfinished brings it back (R28), and the cell, the counts and the sets
stay: DEDUCED, R28 speaks of a TOUCHDOWN's sites alone; unsafe; assumption log 28. -/
def adjustCtx (r : Recipe) (c : Ctx) (x : Nat) (b : BinCode) : Ctx :=
  let cell := c.cellAt x
  let d := match cell.state with
    | .empty => countNew r c b
    | .binned | .adjusted => countMove r c cell.code b
    | .outside => c
  { d with
    cells := c.cells.set x (adjustedCell cell b)
    dirty := c.dirty || decide (adjustedCell cell b ≠ cell)
    idleCount := 0
    idleDue := false }

/-- An ADJUST that has passed its checks: its row, then its cell (R45). -/
def State.continueAdjust (s : State) (m : Merge) (k : CtxId) : State :=
  match onMap (s.recipeFor k) (adjX m.bytes) (adjY m.bytes) with
  | none => s.dispose m dOffMap
  | some (x, y) =>
    match bringRow (s.recipeFor k) s.ctxs[k] y with
    | .here c =>
      (s.modCtx k fun _ => adjustCtx (s.recipeFor k) c x (Fin.ofNat 64 (adjCode m.bytes))).evaluateMerge (m.accepted c) k none
        dAccepted
    | .writeback => { s with merge := some { m with phase := .rowWriteback y } }
    | .fetch c => { s.modCtx k (fun _ => c) with merge := some { m with phase := .rowFetch y } }

/-- A merge goes on after a row operation. -/
def State.continueMerge (s : State) (m : Merge) (k : CtxId) : State :=
  if recKind m.bytes = kindTouchdown then s.continueTouchdown m k else s.continueAdjust m k

/-- The checks of Table 2-1: the refusal of the first that fails. -/
def touchdownRefusal (r : Recipe) (c : Ctx) (bs : List Byte) : Option Byte :=
  if recTag bs ≠ c.tag then some dWaferMismatch
  else if tdNumber bs ≤ c.lastTouch then some dStaleTouchdown
  else if (List.finRange 16).any (present r bs) then none
  else some dEmptyMask

/-- The checks of Table 2-3. -/
def adjustRefusal (r : Recipe) (c : Ctx) (bs : List Byte) : Option Byte :=
  if recTag bs ≠ c.tag then some dWaferMismatch
  else if (onMap r (adjX bs) (adjY bs)).isNone then some dOffMap
  else if 63 < adjCode bs then some dBadBin
  else none

/-! ### Grants and record reads -/

/-- A candidate (R131). A lane whose RETIRE waits to be carried out is none (R141; assumption log 12). -/
def State.isCandidate (s : State) (l : LaneId) : Bool :=
  decide (s.lanes[l].state = .ready) && !s.lanes[l].hold && decide (s.engine.run = .running) &&
    s.lanes[l].inService.isSome && !s.retirePending l

/-- The candidate the arbiter grants (R131): the highest priority, then the lowest number. -/
def State.granted (s : State) : Option LaneId :=
  let cs := (List.finRange 16).filter s.isCandidate
  let top := cs.foldl (fun p l => max p s.lanes[l].priority.val) 0
  cs.find? fun l => decide (s.lanes[l].priority.val = top)

/-- The grant of lane `l` (R24, R25, R13). -/
def State.grantLane (s : State) (l : LaneId) : State :=
  match s.lanes[l].inService with
  | some v =>
    let t := match s.lanes[l].ctx with
      | some k => s.modCtx k fun c => { c with inMerge := true }
      | none => s
    { t with merge := some ⟨l, v.half, v.next, [], [], s.lanes[l].ctx, .reading, none⟩ }
  | none => s

/-- GRANT (R131): made while the Merge Engine is IDLE and a lane is a candidate. -/
def execGrant (s : State) : Host.Outcome State Fault Refusal :=
  match s.merge, s.granted with
  | none, some l => .next (s.grantLane l)
  | _, _ => .next s

/-- Where the record in merge lies. -/
def State.recordAddr (s : State) (m : Merge) : Nat := s.lanes[m.lane].recordAddr m.half m.index

/-- The merge whose record read completes now with a kind that meets `p`, holding the record as read (R25). -/
def State.recordRead (s : State) (p : Nat → Bool) : Option Merge :=
  match s.merge with
  | some m =>
    let bs := Mem.readBytes s.mem (s.recordAddr m) 64
    if s.working ∧ m.phase = .reading ∧ p (recKind bs) = true then some { m with bytes := bs } else none
  | none => none

/-- TOUCHDOWN (R29 to R43). -/
def execTouchdown (s : State) : Host.Outcome State Fault Refusal :=
  match s.recordRead fun n => decide (n = kindTouchdown) with
  | none => .next s
  | some m =>
    match m.ctx with
    | none => .next (s.dispose m dNoWafer)
    | some k =>
      match touchdownRefusal (s.recipeFor k) s.ctxs[k] m.bytes with
      | some d => .next (s.dispose m d)
      | none => .next (announce s (s.continueTouchdown m k))

/-- ADJUST (R44 to R46). -/
def execAdjust (s : State) : Host.Outcome State Fault Refusal :=
  match s.recordRead fun n => decide (n = kindAdjust) with
  | none => .next s
  | some m =>
    match m.ctx with
    | none => .next (s.dispose m dNoWafer)
    | some k =>
      match adjustRefusal (s.recipeFor k) s.ctxs[k] m.bytes with
      | some d => .next (s.dispose m d)
      | none => .next (announce s (s.continueAdjust m k))

/-- CLOSE (R108): the context enters CLOSING with cause RECORD; ACCEPTED waits for its live block rewrite. -/
def execClose (s : State) : Host.Outcome State Fault Refusal :=
  match s.recordRead fun n => decide (n = kindClose) with
  | none => .next s
  | some m =>
    match m.ctx with
    | none => .next (s.dispose m dNoWafer)
    | some k =>
      if recTag m.bytes ≠ s.ctxs[k].tag then .next (s.dispose m dWaferMismatch)
      else
        .next (announce s
          ({ s with merge := some { m with phase := .awaitLive none dAccepted } }.closeContext k .record .merge))

/-- The ACTIVE lot entry that holds an id (R109). -/
def State.activeLot (s : State) (id : Word) : Option LotId :=
  (List.finRange 8).find? fun i => decide (s.lots[i].state = .active) && decide (s.lots[i].id = id)

/-- LOT_END (R109). -/
def execLotEnd (s : State) : Host.Outcome State Fault Refusal :=
  match s.recordRead fun n => decide (n = kindLotEnd) with
  | none => .next s
  | some m =>
    match s.activeLot (endLot m.bytes) with
    | none => .next (s.dispose m dNoLot)
    | some i =>
      if 0 < s.lots[i].wafersOpen then .next (s.dispose m dLotBusy)
      else
        .next (announce s (((s.modLot i fun t => { t with state := .ending, endingLane := m.lane }).enqueue (.lot i)).dispose
          m dAccepted))

/-- NOP (R25). -/
def execNop (s : State) : Host.Outcome State Fault Refusal :=
  match s.recordRead fun n => decide (n = kindNop) with
  | none => .next s
  | some m => .next (s.dispose m dAccepted)

/-- BAD_KIND (R25): kind codes 0 and 7..255. -/
def execBadKind (s : State) : Host.Outcome State Fault Refusal :=
  match s.recordRead fun n => decide (n = 0) || decide (6 < n) with
  | none => .next s
  | some m => .next (s.dispose m dBadKind)

/-- RECORD_READ_ERROR (R133): the half is ended; its RETURNED FAULTED write is issued. -/
def execRecordReadError (s : State) : Host.Outcome State Fault Refusal :=
  match s.merge with
  | some m =>
    if s.working ∧ m.phase = .reading then .next { s with merge := some { m with phase := .faultedReturn } } else .next s
  | none => .next s

/-- HALF_FAULTED_RETURN_WRITTEN (R133). -/
def execHalfFaultedReturnWritten (s : State) : Host.Outcome State Fault Refusal :=
  match s.merge with
  | some m =>
    if s.working ∧ m.phase = .faultedReturn then
      .next (announce s (((((s.storeOpt (s.mergeWrite m)).modLane m.lane fun n =>
        { n with inService := none }).laneFault m.lane .memLane).endMerge m).drainWork))
    else .next s
  | none => .next s

/-! ### Row operations -/

/-- The row needed is brought into a clean window (R20, steps 2 and 3), and the merge goes on if it is there. -/
def State.afterWriteback (s : State) (m : Merge) (k : CtxId) (y : RowId) : State :=
  match bringClean (s.recipeFor k) s.ctxs[k] y with
  | .here c => (s.modCtx k fun _ => c).continueMerge m k
  | .fetch c => { s.modCtx k (fun _ => c) with merge := some { m with phase := .rowFetch y } }
  | .writeback => s

/-- ROW_WRITEBACK_DONE (R20, step 1). -/
def execRowWritebackDone (s : State) : Host.Outcome State Fault Refusal :=
  match s.merge with
  | some m =>
    match m.phase, m.ctx with
    | .rowWriteback y, some k =>
      if s.working then
        .next (announce s (((s.storeOpt (s.mergeWrite m)).modCtx k Ctx.windowClean).afterWriteback m k y))
      else .next s
    | _, _ => .next s
  | none => .next s

/-- The window with the row a fetch has read (R20, step 2). -/
def Ctx.fetched (cells : List MapCell) (y : RowId) (c : Ctx) : Ctx :=
  { c with winRow := some y, dirty := false, cells := cells }

/-- ROW_FETCH_DONE (R20, R21). -/
def execRowFetchDone (r : ReadEnd) (s : State) : Host.Outcome State Fault Refusal :=
  match s.merge with
  | some m =>
    match m.phase, m.ctx with
    | .rowFetch y, some k =>
      if s.working then
        match r with
        | .uncorrectable landed => .next (announce s (s.engineFault .memMap landed))
        | .returned =>
          let cols := (s.recipeFor k).cols
          .next (announce s
            ((s.modCtx k (Ctx.fetched (rowOf (memSrc s.mem (s.rowAddr k cols y)) cols) y)).continueMerge m k))
      else .next s
    | _, _ => .next s
  | none => .next s

/-! ### Disposition writes -/

/-- SITE_WORD_WRITTEN (R26): the disposition byte's write follows. -/
def execSiteWordWritten (s : State) : Host.Outcome State Fault Refusal :=
  match s.merge with
  | some m =>
    match m.phase with
    | .siteWord _ code => if s.working then .next ((s.storeOpt (s.mergeWrite m)).dispose m code) else .next s
    | _ => .next s
  | none => .next s

/-- The lane after its record is disposed (R134): the next record, or the half's return. -/
def Lane.advanced (n : Lane) : Lane :=
  match n.inService with
  | some v =>
    if v.next + 1 < v.count then { n with state := .ready, inService := some { v with next := v.next + 1 } }
    else { n with state := .idle, inService := some { v with next := v.next + 1 }, ret := .writing }
  | none => n

/-- DISPOSITION_WRITTEN (R26, R134). -/
def execDispositionWritten (s : State) : Host.Outcome State Fault Refusal :=
  match s.merge with
  | some m =>
    match m.phase with
    | .disposition _ =>
      if s.working then
        .next ((((s.storeOpt (s.mergeWrite m)).endMerge m).modLane m.lane Lane.advanced).drainWork)
      else .next s
    | _ => .next s
  | none => .next s

end Sys2Proof.Machine
end

