-- ==== Sys2Proof/Machine/OpenRecord.lean ====
section
/-!
DEFINITION. OPEN execution (6.1), with the commands OPEN and HANDOVER_LIVE_WRITTEN.
-/

namespace Sys2Proof.Machine

/-- How a wafer joins a lot (R105): an ACTIVE entry, or a new entry. -/
inductive LotChoice where
  | join (i : LotId)
  | create (i : LotId)
  deriving DecidableEq, Repr

/-- How an OPEN's execution ends (Table 6-1). -/
inductive OpenDecision where
  | refuse (code : Byte)
  | waitContext
  | joinLoad (e : EntryId)
  | startLoad (e : EntryId)
  | waitRecipe
  | accept (k : CtxId) (e : EntryId) (lot : LotChoice)
  deriving DecidableEq, Repr

/-- The ACTIVE or ENDING entry that holds a lot id (R105). -/
def State.lotEntry (s : State) (id : Word) : Option LotId :=
  (List.finRange 8).find? fun i =>
    (decide (s.lots[i].state = .active) || decide (s.lots[i].state = .ending)) && decide (s.lots[i].id = id)

/-- The lot checks of step 3 (Table 6-2): a refusal, or the entry the wafer will join or create. -/
def State.lotCheck (s : State) (id : Word) (recipe : Nat) : Except Byte LotChoice :=
  match s.lotEntry id with
  | some i =>
    if s.lots[i].state = .ending then .error dLotBusy
    else if s.lots[i].recipe ≠ recipe then .error dRecipeMismatch
    else if s.lots[i].wafersAll = Config.lotMax then .error dLotFull
    else .ok (.join i)
  | none =>
    match (List.finRange 8).find? fun i => decide (s.lots[i].state = .free) with
    | some i => .ok (.create i)
    | none => .error dLotTableFull

/-- The lowest-numbered FREE context (R1). -/
def State.freeCtx (s : State) : Option CtxId := (List.finRange 24).find? fun k => decide (s.ctxs[k].state = .free)

/-- A geometry's image needs more than the map stride (R106, step 6). -/
def State.mapTooBig (s : State) (r : Recipe) : Bool := decide (s.engine.config.mapStride < r.cols * r.rows * 2)

/-- Steps 1 to 6 of an OPEN (Table 6-1), with the waiter sets as they stand when the execution begins. -/
def State.openDecision (s : State) (m : Merge) : OpenDecision :=
  if s.lanes[m.lane].ctx.isSome then .refuse dAlreadyOpen
  else if s.engine.config.recipeCount ≤ openRecipe m.bytes then .refuse dBadRecipe
  else
    match s.lotCheck (openLot m.bytes) (openRecipe m.bytes) with
    | .error d => .refuse d
    | .ok lot =>
      match s.freeCtx with
      | none => .waitContext
      | some k =>
        match s.lookup (openRecipe m.bytes) m.lane with
        | .refused => .refuse dBadRecipe
        | .join e => .joinLoad e
        | .load e => .startLoad e
        | .full => .waitRecipe
        | .ready e => if s.mapTooBig s.cache[e].copy then .refuse dMapTooBig else .accept k e lot

/-- A context as an accepted OPEN makes it (R7). The generation carries on (R5), and window cells beyond the new geometry
are dropped (R168). -/
def Ctx.openedWith (m : Merge) (e : EntryId) (i : LotId) (r : Recipe) (c : Ctx) : Ctx :=
  { c with
    state := .opened
    lane := m.lane
    bound := true
    lot := i
    recipeNumber := openRecipe m.bytes
    entry := e
    tag := recTag m.bytes
    lastTouch := 0
    firstTouch := none
    bins := Vector.replicate 64 0
    tested := 0
    good := 0
    touches := 0
    retests := 0
    siteTested := Vector.replicate 16 0
    sitePass := Vector.replicate 16 0
    run := Vector.replicate 16 0
    active := MonitorSet.none
    latched := MonitorSet.none
    idleCount := 0
    idleLimit := r.idleLimit
    inMerge := false
    cause := .none
    winRow := none
    dirty := false
    cells := c.cells.take r.cols
    rowsDone := Vector.replicate 512 false
    idleDue := false }

/-- The lot entry with the wafer joined to it (R107). -/
def Lot.joined (t : Lot) : Lot := { t with wafersOpen := t.wafersOpen + 1, wafersAll := t.wafersAll + 1 }

/-- A new lot entry (R107, R84). -/
def Lot.created (m : Merge) (r : Recipe) (t : Lot) : Lot :=
  { t with
    state := .active
    id := openLot m.bytes
    recipe := openRecipe m.bytes
    wafersOpen := 1
    wafersAll := 1
    tested := 0
    good := 0
    bins := Vector.replicate 64 0
    lowFlag := false
    floor := r.lotFloor
    assertFlag := r.assertMask.lotFloor
    holdFlag := r.holdMask.lotFloor }

def LotChoice.id : LotChoice → LotId
  | .join i => i
  | .create i => i

/-- Step 7 (R107): on-chip state, the first of the OPEN's writes is issued, and its live block rewrite waits for the slot's
LIVE (assumption log 26). -/
def State.acceptOpen (s : State) (m : Merge) (k : CtxId) (e : EntryId) (lot : LotChoice) : State :=
  let r := s.cache[e].copy
  let t := ((s.modCtx k (Ctx.openedWith m e lot.id r)).pin e).modLane m.lane fun n => { n with ctx := some k }
  match lot with
  | .join i => { t.modLot i Lot.joined with merge := some { m with phase := .slotLive k } }.rewrite k .merge
  | .create i => { t.modLot i (Lot.created m r) with merge := some { m with phase := .lotLive i k } }.rewrite k .merge

/-- A waiting OPEN: the merge ends with the record left at the head, and the lane enters its wait (R104, R134). -/
def State.leaveWaiting (s : State) (m : Merge) (w : LaneState) : State :=
  (s.endMerge m).modLane m.lane fun n => { n with state := w }

/-- The end of an OPEN's execution; `s` is the state with the lane out of every waiter set (R104). -/
def State.applyOpen (s : State) (m : Merge) : OpenDecision → State
  | .refuse d => s.dispose m d
  | .waitContext => s.leaveWaiting m .waitContext
  | .joinLoad e => (s.joinWaiters e m.lane).leaveWaiting m .loading
  | .startLoad e => (s.startLoad e (openRecipe m.bytes) m.lane).leaveWaiting m .loading
  | .waitRecipe => s.leaveWaiting m .waitRecipe
  | .accept k e lot => s.acceptOpen m k e lot

/-- An OPEN's execution (R104). A waiter set it empties wakes the lanes in WAIT_RECIPE (R99), this lane's own wait among
them (assumption log 13). -/
def State.executeOpen (s : State) (m : Merge) : State :=
  let t := (s.leaveWaiters m.lane).applyOpen m (s.openDecision m)
  (t.wakeRecipeIf (waitersFreed s t m.lane)).drainWork

/-- OPEN (R104 to R107). -/
def execOpenRecord (s : State) : Host.Outcome State Fault Refusal :=
  match s.recordRead fun n => decide (n = kindOpen) with
  | none => .next s
  | some m => .next (s.executeOpen m)

/-- HANDOVER_LIVE_WRITTEN (R107): after a lot slot's LIVE comes the summary slot's; after that the live block's rewrite, which
has waited at the head of the slot's jobs. -/
def execHandoverLiveWritten (s : State) : Host.Outcome State Fault Refusal :=
  match s.merge with
  | some m =>
    match m.phase with
    | .lotLive _ k =>
      if s.working then .next { s.storeOpt (s.mergeWrite m) with merge := some { m with phase := .slotLive k } }
      else .next s
    | .slotLive k =>
      if s.working then
        .next ({ s.storeOpt (s.mergeWrite m) with merge := some { m with phase := .awaitLive none dAccepted } }.kickSlot k)
      else .next s
    | _ => .next s
  | none => .next s

end Sys2Proof.Machine
end

