-- ==== Sys2Proof/Machine/LiveBlock.lean ====
section
/-!
DEFINITION. Live block rewrites (R118), with the commands LIVE_GEN_ODD_WRITTEN, LIVE_CONTENTS_WRITTEN and
LIVE_BLOCK_WRITTEN.
-/

namespace Sys2Proof.Machine

/-- LIVE_GEN_ODD_WRITTEN of context k (R118). -/
def execLiveGenOddWritten (k : CtxId) (s : State) : Host.Outcome State Fault Refusal :=
  match s.ctxs[k].slotPhase with
  | some (.genOdd bs) =>
    if s.working then
      .next ((s.storeOpt (s.slotWrite k)).modCtx k fun c => { c with slotPhase := some (.contents bs) })
    else .next s
  | _ => .next s

/-- LIVE_CONTENTS_WRITTEN of context k (R118). -/
def execLiveContentsWritten (k : CtxId) (s : State) : Host.Outcome State Fault Refusal :=
  match s.ctxs[k].slotPhase with
  | some (.contents _) =>
    if s.working then .next ((s.storeOpt (s.slotWrite k)).modCtx k fun c => { c with slotPhase := some .genEven })
    else .next s
  | _ => .next s

/-- The work that waited for a rewrite goes on: the merge's next write, step 3 of a half's return, or step 4 of the close
item (R73, R107, R108, R112, R135). -/
def State.afterRewrite (s : State) (k : CtxId) : RewriteFor → State
  | .merge =>
    match s.merge with
    | some m =>
      match m.phase with
      | .awaitLive w code => s.conclude m w code
      | _ => s
    | none => s
  | .halfReturn l => s.finishReturn l
  | .closeStep => s.closeTotals k
  | .nothing => s

/-- LIVE_BLOCK_WRITTEN of context k (R118): the generation is now even again, the waiting work goes on, and the next write
due in the slot begins. The context's generation field keeps its old even value from the odd write to this one: DESIGN
CHOICE, the spec says only that it "then holds the even value"; unsafe; assumption log 29. -/
def execLiveBlockWritten (k : CtxId) (s : State) : Host.Outcome State Fault Refusal :=
  match s.ctxs[k].slotPhase, s.ctxs[k].jobs with
  | some .genEven, .rewrite why :: _ =>
    if s.working then
      .next (announce s (((((s.storeOpt (s.slotWrite k)).modCtx k fun c =>
        { c with generation := c.generation + 2 }).dropJob k).afterRewrite k why).kickSlot k))
    else .next s
  | _, _ => .next s

end Sys2Proof.Machine
end

