-- ==== Sys2Proof/Machine/Timers.lean ====
section
/-!
DEFINITION. The idle timer (4.5) and the hall tick (0.7), with the commands SECOND_EVENT and IDLE_EXPIRY.
-/

namespace Sys2Proof.Machine

/-- An OPEN context's idle timer at a second event (R77). `idleDue` records an expiry, which IDLE_EXPIRY takes. -/
def Ctx.secondPassed (c : Ctx) : Ctx :=
  if c.state = .opened then
    if c.idleLimit = 0 then { c with idleCount := min (c.idleCount + 1) Config.idleMax }
    else if c.idleCount < c.idleLimit then
      { c with idleCount := c.idleCount + 1, idleDue := c.idleDue || decide (c.idleCount + 1 = c.idleLimit) }
    else { c with idleDue := c.idleDue || !c.active.idle }
  else c

/-- An idle count that an unfinished record would bring back moves as the context's own count would, had the record not
restarted it (R28, R77). -/
def Undo.secondPassed (c : Ctx) (u : Undo) : Undo :=
  { u with idleCount := ({ c with idleCount := u.idleCount }.secondPassed).idleCount }

/-- The second event (R77): the counter starts again from 0 and every OPEN context's timer moves. -/
def State.secondPasses (s : State) : State :=
  { s with
    second := 0
    ctxs := mapAll s.ctxs fun _ c => c.secondPassed
    merge := s.merge.map (Merge.modUndo fun k => Undo.secondPassed s.ctxs[k]) }

/-- SECOND_EVENT (R77); the counter counts in RUNNING alone. -/
def execSecondEvent (s : State) : Host.Outcome State Fault Refusal :=
  if s.engine.run = .running then .next s.secondPasses else .next s

/-- The expiry is taken or discarded. -/
def State.expiryOver (s : State) (k : CtxId) : State := s.modCtx k fun c => { c with idleDue := false }

/-- IDLE asserts (R78): both sets, and the actions of Table 4-3. -/
def State.assertIdle (s : State) (k : CtxId) : State :=
  let r := s.recipeFor k
  let t := (s.modCtx k fun c =>
    { c with active := { c.active with idle := true }, latched := { c.latched with idle := true } }).raiseEvents
      s.ctxs[k].lane r [⟨.idle, true⟩]
  if r.assertMask.idle then t.rewrite k .nothing else t

/-- An autoclose expiry (R79): the latched idle flag, and the close with cause IDLE. -/
def State.autoclose (s : State) (k : CtxId) : State :=
  (s.modCtx k fun c => { c with latched := { c.latched with idle := true } }).closeContext k .idle .nothing

/-- An expiry that finds the in-merge flag clear (R78, R79). -/
def State.expire (s : State) (k : CtxId) : State :=
  if (s.recipeFor k).autoclose then s.autoclose k else if s.ctxs[k].active.idle then s else s.assertIdle k

/-- IDLE_EXPIRY of context k (R78 to R80): discarded while the context is in merge. -/
def execIdleExpiry (k : CtxId) (s : State) : Host.Outcome State Fault Refusal :=
  if s.engine.run = .running ∧ s.ctxs[k].state = .opened ∧ s.ctxs[k].idleDue = true then
    if s.ctxs[k].inMerge then .next (s.expiryOver k) else .next (announce s ((s.expiryOver k).expire k))
  else .next s

/-- One hall tick (0.7): while RUNNING the scan timer and the second counter count, and each acts when it is full
(R127, R77). -/
def State.hallTick (s : State) : State :=
  if s.engine.run = .running then
    let t :=
      if s.engine.config.scanInterval ≤ s.scan.timer + 1 then s.timerExpires
      else { s with scan := { s.scan with timer := s.scan.timer + 1 } }
    if Config.ticksPerSecond ≤ s.second + 1 then t.secondPasses else { t with second := s.second + 1 }
  else s

end Sys2Proof.Machine
end

