-- ==== Sys2Proof/Machine/ProbeWindow.lean ====
section
/-!
DEFINITION. The Probe Window (9.7, Table 10-9), with the commands PROBE_READ, PROBE_WRITE, PROBE_READ_ANSWER and
PROBE_WRITE_STORE.
-/

namespace Sys2Proof.Machine

/-! ### Probe words (R173) -/

def num (n : Nat) : Word := BitVec.ofNat 32 n

def flag (b : Bool) : Word := num b.toNat

def int (n : Int) : Word := BitVec.ofInt 32 n

/-- "None" in a field of indices. -/
def noneWord : Word := 0xFFFFFFFF

def CtxState.code : CtxState → Nat
  | .free => 0
  | .opened => 1
  | .closing => 2
  | .closed => 3

def LaneState.code : LaneState → Nat
  | .disabled => 0
  | .idle => 1
  | .ready => 2
  | .loading => 3
  | .waitContext => 4
  | .waitRecipe => 5
  | .faulted => 6

def LaneFault.code : LaneFault → Nat
  | .none => 0
  | .badDescriptor => 1
  | .badHandover => 2
  | .badCount => 3
  | .memLane => 4

def Half.code : Half → Nat
  | .a => 0
  | .b => 1

def EntryState.code : EntryState → Nat
  | .invalid => 0
  | .loading => 1
  | .valid => 2

/-- The refusal mark (R173): none 0, then the causes of Table 5-2. -/
def markCode : Option Refused → Nat
  | none => 0
  | some .notValid => 1
  | some .badGeometry => 2
  | some .badExtent => 3
  | some .badFold => 4
  | some .badCode => 5
  | some .badSites => 6
  | some .badPolicy => 7

def LotState.code : LotState → Nat
  | .free => 0
  | .active => 1
  | .ending => 2
  | .posted => 3

/-- Word `n` of a byte area. -/
def wordIn (bs : List Byte) (n : Nat) : Word := num (get32 (listSrc bs) (4 * n))

/-- Word `n` (0..15) of the materialized-row bitmap. -/
def bitmapWord (v : Vector Bool 512) (n : Nat) : Word := num (packBits ((v.toList.drop (32 * n)).take 32))

/-- Word `n` (0..255) of the window cells: cells 2n and 2n + 1; cells beyond the geometry read 0 (R168). -/
def cellsWord (cells : List MapCell) (n : Nat) : Word :=
  num ((cells.getD (2 * n) outsideCell).halfword + 65536 * (cells.getD (2 * n + 1) outsideCell).halfword)

/-- Word `w` of context `c` (Table 10-9); none where no word is listed. -/
def ctxWord (c : Ctx) (w : Nat) : Option Word :=
  if w < 21 then
    [num c.state.code, num c.lane.val, flag c.bound, num c.lot.val, num c.recipeNumber, num c.entry.val, c.tag,
      c.lastTouch, flag c.firstTouch.isSome, c.firstTouch.getD 0, num c.tested, int c.good, num c.touches, num c.retests,
      num c.idleCount, num c.idleLimit, flag c.inMerge, num c.cause.code, c.generation,
      (match c.winRow with | some y => num y.val | none => noneWord), flag c.dirty][w]?
  else if 21 ≤ w ∧ w < 25 then some (wordIn c.active.bytes (w - 21))
  else if 25 ≤ w ∧ w < 29 then some (wordIn c.latched.bytes (w - 25))
  else if 32 ≤ w ∧ w < 96 then (c.bins.toList[w - 32]?).map int
  else if 96 ≤ w ∧ w < 112 then (c.siteTested.toList[w - 96]?).map num
  else if 112 ≤ w ∧ w < 128 then (c.sitePass.toList[w - 112]?).map num
  else if 128 ≤ w ∧ w < 144 then (c.run.toList[w - 128]?).map num
  else if 144 ≤ w ∧ w < 160 then some (bitmapWord c.rowsDone (w - 144))
  else if 160 ≤ w ∧ w < 416 then some (cellsWord c.cells (w - 160))
  else none

/-- Word `w` of lane `n` (Table 10-9). -/
def laneWord (n : Lane) (w : Nat) : Option Word :=
  [num n.state.code, flag n.hold, num n.expected.code,
    (match n.inService with | some v => num (v.half.code + 1) | none => 0),
    (match n.inService with | some v => num v.next | none => 0),
    (match n.inService with | some v => num v.count | none => 0),
    flag n.look.isSome, (match n.ctx with | some k => num k.val | none => noneWord), num n.cause.code,
    num n.priority.val, num n.capacity, num n.halfA, num n.halfB][w]?

/-- Word `w` of cache entry `c` (Table 10-9). -/
def entryWord (c : CacheEntry) (w : Nat) : Option Word :=
  if w < 11 then
    [num c.state.code, num c.number, num c.pins, flag c.stale, flag c.dirty, flag c.writing.isSome, num (markCode c.mark),
      num (packBits c.waiters.toList), int c.trendE, num c.trendCnt, flag c.deferred][w]?
  else if 64 ≤ w ∧ w < 1088 then some (wordIn c.copy.image (w - 64))
  else none

/-- Word `w` of lot entry `t` (Table 10-9). -/
def lotWord (t : Lot) (w : Nat) : Option Word :=
  if w < 12 then
    [num t.state.code, t.id, num t.recipe, num t.wafersOpen, num t.wafersAll, num t.tested, int t.good, flag t.lowFlag,
      num t.floor, flag t.assertFlag, flag t.holdFlag, num t.endingLane.val][w]?
  else if 16 ≤ w ∧ w < 80 then (t.bins.toList[w - 16]?).map int
  else none

/-- A close queue item as a probe word: index, kind, close cause. -/
def State.itemWord (s : State) : CloseItem → Word
  | .ctx k => num (k.val + 256 + 4096 * s.ctxs[k].cause.code)
  | .lot i => num (i.val + 512)

/-- Word `w` of the close queue (lot table, index 8). -/
def State.queueWord (s : State) (w : Nat) : Option Word :=
  if w = 0 then some (num s.closeQ.length)
  else if w = 1 then some (flag (decide (s.closeUnit ≠ .idle)))
  else if w < 34 then some ((s.closeQ[w - 2]?).elim 0 s.itemWord)
  else none

/-- The word at a probe address; none when the address is undefined (R168). -/
def State.probeWord (s : State) (region index w : Nat) : Option Word :=
  if region = 1 then (s.ctxs.toList[index]?).bind (ctxWord · w)
  else if region = 2 then (s.lanes.toList[index]?).bind (laneWord · w)
  else if region = 3 then
    if index = 8 then (s.lastUse[w]?).map fun e => num e.val else (s.cache.toList[index]?).bind (entryWord · w)
  else if region = 4 then
    if index = 8 then s.queueWord w else (s.lots.toList[index]?).bind (lotWord · w)
  else none

/-! ### Transactions -/

/-- A PROBE_ADDR write (R165): ignored with the error flag set while busy, otherwise accepted. -/
def State.probeAddr (s : State) (word : BitVec 11) (index : BitVec 5) (region : BitVec 3) (isWrite : Bool) : State :=
  if s.probe.busy then { s with probe := { s.probe with err := true } }
  else
    { s with
      probe := ⟨word, index, region, isWrite, true, false, s.probe.data, if isWrite then s.probe.data else s.probe.store⟩ }

/-- PROBE_READ (R165). -/
def execProbeRead (word : BitVec 11) (index : BitVec 5) (region : BitVec 3) (s : State) :
    Host.Outcome State Fault Refusal :=
  .next (s.probeAddr word index region false)

/-- PROBE_WRITE (R165). -/
def execProbeWrite (word : BitVec 11) (index : BitVec 5) (region : BitVec 3) (s : State) :
    Host.Outcome State Fault Refusal :=
  .next (s.probeAddr word index region true)

/-- The end of a transaction: busy clears, and the error flag is set when the access met an error (R168). -/
def Probe.ended (p : Probe) (bad : Bool) : Probe := { p with busy := false, err := p.err || bad }

/-- PROBE_READ_ANSWER (R166, R168). The block takes the request, sampling the value, and the answer arrives in this one event:
DESIGN CHOICE, R166 tells the two moments apart; unsafe; assumption log 31. -/
def execProbeReadAnswer (s : State) : Host.Outcome State Fault Refusal :=
  if s.probe.busy = true ∧ s.probe.isWrite = false then
    match s.probeWord s.probe.region.toNat s.probe.index.toNat s.probe.word.toNat with
    | some w => .next { s with probe := { s.probe.ended false with data := w } }
    | none => .next { s with probe := { s.probe.ended true with data := 0 } }
  else .next s

/-- A probe write of an OPEN context's idle limit (R82): the low 16 bits; a nonzero value restarts the count (R173). -/
def Ctx.limitWritten (v : Word) (c : Ctx) : Ctx :=
  { c with
    idleLimit := v.toNat % 65536
    idleCount := if v.toNat % 65536 = 0 then c.idleCount else 0
    idleDue := false }

/-- A count that an unfinished record would bring back is restarted too by a nonzero limit (R82, R28). -/
def Undo.limitWritten (v : Word) (u : Undo) : Undo :=
  { u with idleCount := if v.toNat % 65536 = 0 then u.idleCount else 0 }

/-- A probe write of context `k`'s idle limit (R82). -/
def State.writeLimit (s : State) (k : CtxId) (v : Word) : State :=
  { s.modCtx k (Ctx.limitWritten v) with
    merge := s.merge.map (Merge.modUndo fun j => if j = k then Undo.limitWritten v else id) }

/-- The effect of a probe write (R167): its store, or none when the target refuses it. -/
def State.probeStore (s : State) : Option State :=
  let p := s.probe
  if p.region.toNat = 1 ∧ p.word.toNat = 15 then
    if h : p.index.toNat < 24 then
      let k : CtxId := ⟨p.index.toNat, h⟩
      if s.ctxs[k].state = .opened then some (s.writeLimit k p.store) else none
    else none
  else if p.region.toNat = 2 ∧ p.word.toNat = 9 then
    if h : p.index.toNat < 16 ∧ p.store.toNat < 4 then
      some (s.modLane ⟨p.index.toNat, h.1⟩ fun n => { n with priority := ⟨p.store.toNat, h.2⟩ })
    else none
  else none

/-- PROBE_WRITE_STORE (R167, R168). -/
def execProbeWriteStore (s : State) : Host.Outcome State Fault Refusal :=
  if s.probe.busy = true ∧ s.probe.isWrite = true then
    match s.probeStore with
    | some t => .next { t with probe := s.probe.ended false }
    | none => .next { s with probe := s.probe.ended true }
  else .next s

end Sys2Proof.Machine
end

