-- ==== Sys2Proof/Machine/Registers.lean ====
section
/-!
DEFINITION. The register window (chapter 9, Table 10-8), with the commands FLUSH_RECIPES, INTERRUPT_ENABLES, INTERRUPT_MODE,
NOTICE_CLEAR, ENGINE_STATE_READ, REGISTER_WRITE, INTERRUPT_MESSAGE_SENT, RECIPE_LOAD_DONE and MEMORY_WINDOW_WRITE.
-/

namespace Sys2Proof.Machine

/-! ### Register values -/

def RunState.code : RunState → Nat
  | .stopped => 0
  | .running => 1
  | .draining => 2
  | .faulted => 3

def FaultCode.code : FaultCode → Nat
  | .none => 0
  | .badCommon => 1
  | .memMap => 2
  | .memRecipe => 3
  | .memSummary => 4

def Outcome.code : Outcome → Nat
  | .none => 0
  | .pending => 1
  | .done => 2
  | .badCommand => 3
  | .engineNotRunning => 4
  | .notDisabled => 5
  | .laneBusy => 6
  | .notActive => 7

def Enables.bits (e : Enables) : List Bool := [e.handback, e.close, e.alarm, e.fault, e.engine]

/-- CONTROL as read: RUN, pulse bits 0, the enables and the mode (R157). -/
def State.controlValue (s : State) : Word :=
  num (packBits ([s.control.run, false, false, false] ++ s.control.ien.bits ++ [s.control.each]))

/-- LANE_COMMAND as read (R159). -/
def State.commandValue (s : State) : Word :=
  num (s.command.lane.val + 256 * s.command.code.toNat + 65536 * s.command.outcome.code)

def LaneNotice.bits (n : LaneNotice) : List Bool := [n.handback, n.close, n.alarm, n.fault]

/-- NOTICE_LO, or NOTICE_HI with `hi` (R160). -/
def State.noticeValue (s : State) (hi : Bool) : Word :=
  num (packBits (((s.notices.toList.drop (if hi then 8 else 0)).take 8).flatMap LaneNotice.bits))

/-- PROBE_ADDR as read (R165). -/
def State.probeAddrValue (s : State) : Word :=
  num (s.probe.word.toNat + 2 ^ 11 * s.probe.index.toNat + 2 ^ 16 * s.probe.region.toNat + 2 ^ 24 * s.probe.isWrite.toNat +
    2 ^ 30 * s.probe.err.toNat + 2 ^ 31 * s.probe.busy.toNat)

def State.freeContexts (s : State) : Nat := countWhere s.ctxs fun c => decide (c.state = .free)
def State.freeLots (s : State) : Nat := countWhere s.lots fun t => decide (t.state = .free)
def State.validEntries (s : State) : Nat := countWhere s.cache fun c => decide (c.state = .valid)

/-- ENGINE_STATE as it stands (R164). -/
def State.engineValue (s : State) : Word :=
  num (s.engine.run.code + 2 ^ 4 * s.engine.fault.code + 2 ^ 8 * s.pend.toNat + 2 ^ 9 * s.flags.refused.toNat +
    2 ^ 10 * s.flags.drained.toNat + 2 ^ 11 * s.flags.engine.toNat + 2 ^ 12 * s.freeContexts + 2 ^ 20 * s.freeLots +
    2 ^ 24 * s.validEntries)

/-- The value a read of the register at an offset returns; 0 where there is none (R156). Only a read of ENGINE_STATE has an
effect. -/
def State.registerValue (s : State) (offset : Nat) : Word :=
  if offset = 0x00 then s.controlValue
  else if offset = 0x04 then s.common
  else if offset = 0x08 then s.commandValue
  else if offset = 0x0C then s.noticeValue false
  else if offset = 0x10 then s.noticeValue true
  else if offset = 0x14 then s.probeAddrValue
  else if offset = 0x18 then s.probe.data
  else if offset = 0x1C then s.engineValue
  else 0

/-- The addressed bytes of a register value, in the low bits (R156). -/
def addressedBytes (v : Word) (first bytes : Nat) : Word := num (v.toNat / 256 ^ first % 256 ^ bytes)

/-- ENGINE_STATE_READ (R164): the value is formed, then REFUSED, DRAINED and ENGINE clear. -/
def execEngineStateRead (first : Fin 4) (bytes : Nat) (s : State) : Host.Outcome State Fault Refusal :=
  .next { s with readValue := addressedBytes s.engineValue first.val bytes, flags := ⟨false, false, false⟩ }

/-! ### CONTROL -/

/-- The FLUSH_RECIPES part of a CONTROL write (R100): taken in RUNNING or STOPPED. -/
def State.flushPart (s : State) : State :=
  if s.engine.run = .running ∨ s.engine.run = .stopped then s.flush else s.refuse

/-- FLUSH_RECIPES (R100). -/
def execFlushRecipes (s : State) : Host.Outcome State Fault Refusal := .next s.flushPart

/-- A field written under a mask bit. -/
def underMask (mask value old : Bool) : Bool := if mask then value else old

/-- The enables written under a mask (R157, R162): bit 0 HANDBACK to bit 4 ENGINE. -/
def Enables.written (e : Enables) (mask value : BitVec 5) : Enables where
  handback := underMask (mask.getLsbD 0) (value.getLsbD 0) e.handback
  close := underMask (mask.getLsbD 1) (value.getLsbD 1) e.close
  alarm := underMask (mask.getLsbD 2) (value.getLsbD 2) e.alarm
  fault := underMask (mask.getLsbD 3) (value.getLsbD 3) e.fault
  engine := underMask (mask.getLsbD 4) (value.getLsbD 4) e.engine

def State.enablesPart (s : State) (mask value : BitVec 5) : State :=
  { s with control := { s.control with ien := s.control.ien.written mask value } }

/-- INTERRUPT_ENABLES (R162); in EDGE mode it may raise a message (R163). -/
def execInterruptEnables (mask value : BitVec 5) (s : State) : Host.Outcome State Fault Refusal :=
  .next (announce s (s.enablesPart mask value))

/-- INTERRUPT_MODE (R163): no message by itself. -/
def execInterruptMode (each : Bool) (s : State) : Host.Outcome State Fault Refusal :=
  .next { s with control := { s.control with each := each } }

/-- A CONTROL write (R157, R158): the selected parts in the order CLEAR, RUN, FLUSH_RECIPES, SCAN_NOW, enables and mode,
each decided against the state the parts before it have left. -/
def State.controlWrite (s : State) (v : Word) : State :=
  let sel (n : Nat) : Bool := v.getLsbD (16 + n)
  let bit (n : Nat) : Bool := v.getLsbD n
  let s := if sel 2 && bit 2 then s.clearPart [] else s
  let s := if sel 0 then s.runPart (bit 0) else s
  let s := if sel 3 && bit 3 then s.flushPart else s
  let s := if sel 1 && bit 1 then s.scanNowPart else s
  let s := s.enablesPart (v.extractLsb' 20 5) (v.extractLsb' 4 5)
  { s with control := { s.control with each := underMask (sel 9) (bit 9) s.control.each } }

/-! ### Notices -/

/-- A lane's flags with those written as 1 cleared (R161); bit `b` is HANDBACK's. -/
def LaneNotice.clearedBy (n : LaneNotice) (bits : Word) (b : Nat) : LaneNotice where
  handback := n.handback && !bits.getLsbD b
  close := n.close && !bits.getLsbD (b + 1)
  alarm := n.alarm && !bits.getLsbD (b + 2)
  fault := n.fault && !bits.getLsbD (b + 3)

/-- A write of NOTICE_LO (lanes 0..7) or NOTICE_HI (lanes 8..15) (R161). -/
def State.noticeWrite (s : State) (hi : Bool) (bits : Word) : State :=
  { s with notices := mapAll s.notices fun l n =>
      if decide (8 ≤ l.val) = hi then n.clearedBy bits (4 * (l.val % 8)) else n }

/-- NOTICE_CLEAR (R161). -/
def execNoticeClear (hi : Bool) (bits : Word) (s : State) : Host.Outcome State Fault Refusal :=
  .next (s.noticeWrite hi bits)

/-! ### Other register writes -/

/-- A full write of the register at an offset (R156, R173). -/
def State.registerWritten (s : State) (offset : Nat) (v : Word) : State :=
  if offset = 0x00 then s.controlWrite v
  else if offset = 0x04 then s.commonBasePart v
  else if offset = 0x08 then s.laneCommand (v.extractLsb' 8 3) (Fin.ofNat 16 v.toNat)
  else if offset = 0x0C then s.noticeWrite false v
  else if offset = 0x10 then s.noticeWrite true v
  else if offset = 0x14 then
    s.probeAddr (v.extractLsb' 0 11) (v.extractLsb' 11 5) (v.extractLsb' 16 3) (v.getLsbD 24)
  else if offset = 0x18 then { s with probe := { s.probe with data := v } }
  else s

/-- A write of fewer than 32 bits is ignored and sets REFUSED (R156); at an offset that holds none of the eight registers
the spec's two sentences differ, so whether it does is a free value (assumption log 5). -/
def State.narrowWritten (s : State) (offset : Nat) : State :=
  if offset < 0x20 then s.refuse else if Config.narrowUnmappedRefuses then s.refuse else s

/-- REGISTER_WRITE (R156): one event at the register it addresses. -/
def execRegisterWrite (offset : Nat) (bytes : Nat) (value : Word) (s : State) : Host.Outcome State Fault Refusal :=
  if bytes < 4 then .next (s.narrowWritten offset) else .next (announce s (s.registerWritten offset value))

/-- INTERRUPT_MESSAGE_SENT (R163). -/
def execInterruptMessageSent (s : State) : Host.Outcome State Fault Refusal :=
  .next { s with messages := s.messages - 1 }

/-! ### Recipe loads and the memory window -/

/-- RECIPE_LOAD_DONE of entry e (R94, R96). -/
def execRecipeLoadDone (e : EntryId) (early : List Host.Cell) (r : ReadEnd) (s : State) : Host.Outcome State Fault Refusal :=
  match s.cache[e].load with
  | .reading since =>
    if s.working then
      match r with
      | .uncorrectable landed => .next (announce s (s.engineFault .memRecipe landed))
      | .returned =>
        .next (s.finishLoad e (loadSrc s.mem (s.past.drop since) (s.recipeAddr s.cache[e].number) early))
    else .next s
  | _ => .next s

/-- MEMORY_WINDOW_WRITE (R126): host bytes land in collation memory in every run state (R151). -/
def execMemoryWindowWrite (addr : Word) (data : List Byte) (s : State) : Host.Outcome State Fault Refusal :=
  if addr.toNat + data.length ≤ Config.memBytes then .next (s.store addr.toNat data) else .fault .outsideMemory

end Sys2Proof.Machine
end

