-- ==== Sys2Proof/Machine/Dispatch.lean ====
section
/-!
DEFINITION. The meaning of every command: one arm per constructor of Instr, in the table's order, each a direct call.
-/

namespace Sys2Proof.Machine

/-- The effect of a command on everything but the queue of commands that wait. -/
def exec (i : Instr) (s : State) : Host.Outcome State Fault Refusal :=
  match i with
  | .powerOnReset dram => Sys2Proof.Machine.execPowerOnReset dram s
  | .portReset landed => Sys2Proof.Machine.execPortReset landed s
  | .run value => Sys2Proof.Machine.execRun value s
  | .scanNow => Sys2Proof.Machine.execScanNow s
  | .clear landed => Sys2Proof.Machine.execClear landed s
  | .flushRecipes => Sys2Proof.Machine.execFlushRecipes s
  | .interruptEnables mask value => Sys2Proof.Machine.execInterruptEnables mask value s
  | .interruptMode each => Sys2Proof.Machine.execInterruptMode each s
  | .commonBase value => Sys2Proof.Machine.execCommonBase value s
  | .enable lane => Sys2Proof.Machine.execEnable lane s
  | .disable lane => Sys2Proof.Machine.execDisable lane s
  | .hold lane => Sys2Proof.Machine.execHold lane s
  | .release lane => Sys2Proof.Machine.execRelease lane s
  | .retire lane => Sys2Proof.Machine.execRetire lane s
  | .badCommand code lane => Sys2Proof.Machine.execBadCommand code lane s
  | .noticeClear hi bits => Sys2Proof.Machine.execNoticeClear hi bits s
  | .engineStateRead first bytes => Sys2Proof.Machine.execEngineStateRead first bytes s
  | .probeRead word index region => Sys2Proof.Machine.execProbeRead word index region s
  | .probeWrite word index region => Sys2Proof.Machine.execProbeWrite word index region s
  | .registerWrite offset bytes value => Sys2Proof.Machine.execRegisterWrite offset bytes value s
  | .probeReadAnswer => Sys2Proof.Machine.execProbeReadAnswer s
  | .probeWriteStore => Sys2Proof.Machine.execProbeWriteStore s
  | .scanTimerExpiry => Sys2Proof.Machine.execScanTimerExpiry s
  | .secondEvent => Sys2Proof.Machine.execSecondEvent s
  | .idleExpiry k => Sys2Proof.Machine.execIdleExpiry k s
  | .look l bad => Sys2Proof.Machine.execLook l bad s
  | .lookReturnWritten l => Sys2Proof.Machine.execLookReturnWritten l s
  | .summarySlotRead k r => Sys2Proof.Machine.execSummarySlotRead k r s
  | .lotSlotRead n r => Sys2Proof.Machine.execLotSlotRead n r s
  | .grant => Sys2Proof.Machine.execGrant s
  | .openRecord => Sys2Proof.Machine.execOpenRecord s
  | .touchdown => Sys2Proof.Machine.execTouchdown s
  | .adjust => Sys2Proof.Machine.execAdjust s
  | .close => Sys2Proof.Machine.execClose s
  | .lotEnd => Sys2Proof.Machine.execLotEnd s
  | .nop => Sys2Proof.Machine.execNop s
  | .badKind => Sys2Proof.Machine.execBadKind s
  | .recordReadError => Sys2Proof.Machine.execRecordReadError s
  | .rowWritebackDone => Sys2Proof.Machine.execRowWritebackDone s
  | .rowFetchDone r => Sys2Proof.Machine.execRowFetchDone r s
  | .siteWordWritten => Sys2Proof.Machine.execSiteWordWritten s
  | .dispositionWritten => Sys2Proof.Machine.execDispositionWritten s
  | .handoverLiveWritten => Sys2Proof.Machine.execHandoverLiveWritten s
  | .liveGenOddWritten k => Sys2Proof.Machine.execLiveGenOddWritten k s
  | .liveContentsWritten k => Sys2Proof.Machine.execLiveContentsWritten k s
  | .liveBlockWritten k => Sys2Proof.Machine.execLiveBlockWritten k s
  | .halfReturnWritten l => Sys2Proof.Machine.execHalfReturnWritten l s
  | .retireCarryOut => Sys2Proof.Machine.execRetireCarryOut s
  | .skippedWritten => Sys2Proof.Machine.execSkippedWritten s
  | .retireReturnWritten => Sys2Proof.Machine.execRetireReturnWritten s
  | .recipeLoadDone e early r => Sys2Proof.Machine.execRecipeLoadDone e early r s
  | .trendWritebackDone e => Sys2Proof.Machine.execTrendWritebackDone e s
  | .closeWindowWritten => Sys2Proof.Machine.execCloseWindowWritten s
  | .materializeRowWritten => Sys2Proof.Machine.execMaterializeRowWritten s
  | .summaryWritten => Sys2Proof.Machine.execSummaryWritten s
  | .postedWritten => Sys2Proof.Machine.execPostedWritten s
  | .lotSummaryWritten => Sys2Proof.Machine.execLotSummaryWritten s
  | .lotPostedWritten => Sys2Proof.Machine.execLotPostedWritten s
  | .drainWindowWritten k => Sys2Proof.Machine.execDrainWindowWritten k s
  | .drainEnd => Sys2Proof.Machine.execDrainEnd s
  | .commonHeaderRead bad => Sys2Proof.Machine.execCommonHeaderRead bad s
  | .coldDescriptorRead bad => Sys2Proof.Machine.execColdDescriptorRead bad s
  | .enableDescriptorRead bad => Sys2Proof.Machine.execEnableDescriptorRead bad s
  | .interruptMessageSent => Sys2Proof.Machine.execInterruptMessageSent s
  | .halfFaultedReturnWritten => Sys2Proof.Machine.execHalfFaultedReturnWritten s
  | .memoryWindowWrite addr data => Sys2Proof.Machine.execMemoryWindowWrite addr data s

end Sys2Proof.Machine
end

