-- ==== Sys2Proof/Machine/Step.lean ====
section
/-!
DEFINITION. One step: the command at the front of the queue, or one hall tick when none waits.
-/

namespace Sys2Proof.Machine

/-- One step (assumption log 2): the command that has waited longest is taken from the queue and carried out; when no
command waits, one hall tick passes. -/
def step (s : State) : Host.Outcome State Fault Refusal :=
  match s.pending with
  | c :: cs => exec c { s with pending := cs }
  | [] => .next s.hallTick

/-- `s` with the command that a word spells put at the front of its queue; the table gives no command a word, so `s`
itself (assumption log 22). -/
def State.withFetchWord (s : State) (nbits w : Nat) : State :=
  match decodeTableWord nbits w with
  | some c => { s with pending := c :: s.pending }
  | none => s

end Sys2Proof.Machine
end

