-- ==== Sys2Proof/Safety.lean ====
section
/-!
DEFINITION. What counts as a sound state, in the terms the claims use: each predicate is an invariant that the spec states of
the part, said of one state.
-/

namespace Sys2Proof.Machine

/-- Memory `after` is memory `before` with the bytes `bs` stored at offset `a`: each reads back (of a memory in its canonical
form, which `Obligations.MemoryKeepsItsForm` says every step keeps), and every other offset reads as it did. -/
def Mem.storedAt (before after : Mem) (a : Nat) (bs : List Byte) : Prop :=
  (Mem.wf before = true → ∀ i, i < bs.length → a + i < 2 ^ 32 → Mem.read after (a + i) = bs.getD i 0) ∧
    ∀ x, x < a ∨ a + bs.length ≤ x → Mem.read after x = Mem.read before x

/-- `t` holds the memory of `s` with the bytes `bs` stored at offset `a`; the bytes they replace are noted where a load's
read in flight may have taken them (R93; assumption log 8). -/
def State.stores (s t : State) (a : Nat) (bs : List Byte) : Prop :=
  Mem.storedAt s.mem t.mem a bs ∧ t.past = s.past ++ s.replaced (cellsAt a bs)

/-- `t` holds the memory of `s` when its writes in flight stop where they stand (R151, R155): of the bytes that may land those
that `landed` lists are stored, the last listed at an offset standing, and every other offset reads as it did. -/
def State.stopsWrites (s t : State) (may : Host.Cell → Bool) (landed : List Host.Cell) : Prop :=
  (∀ a, (∀ c ∈ landed, may c = true → c.1 ≠ a) → Mem.read t.mem a = Mem.read s.mem a) ∧
    ∀ before after a v, landed = before ++ (a, v) :: after → may (a, v) = true →
      (∀ c ∈ after, may c = true → c.1 ≠ a) → a < 2 ^ 32 → Mem.wf s.mem = true → Mem.read t.mem a = v

/-- No OPEN holds context `k`'s slot for its LIVE write (R107; assumption log 26). -/
def State.slotFree (s : State) (k : CtxId) : Prop :=
  ∀ m, s.merge = some m → m.phase ≠ .slotLive k ∧ ∀ i, m.phase ≠ .lotLive i k

/-- `t` is `s` with the first write begun of the job at the head of context `k`'s slot, if any (R118): a rewrite takes the
contents as they stand. -/
def State.startsNext (s t : State) (k : CtxId) : Prop :=
  t = { s with ctxs := modAt s.ctxs k fun c => { c with slotPhase := match c.jobs with
    | [] => none
    | .rewrite _ :: _ => some (.genOdd c.liveContents)
    | .summary :: _ => some .summary
    | .posted :: _ => some .posted } }

/-- An OPEN of lane `l` that found the state `s` ends in `u`, then `t` (R99, fourth line): where the lane left the waiter set
of an entry which `u` has without waiters, unpinned and with no trend writeback in flight, the lanes in WAIT_RECIPE return to
READY, this lane among them (assumption log 13); in DRAINING the work of the drain that has become due starts. -/
def State.openEnds (s u t : State) (l : LaneId) : Prop :=
  ∃ v : State, v = { u with lanes := v.lanes } ∧ t = v.drainWork ∧ (u.engine.run = .running → t = v) ∧
    ∀ l' : LaneId, v.lanes[l'] =
      if u.lanes[l'].state = .waitRecipe ∧ ∃ e : EntryId, s.cache[e].waiters[l] = true ∧
          (∀ i : LaneId, u.cache[e].waiters[i] = false) ∧ u.cache[e].pins = 0 ∧ u.cache[e].writing = none then
        { u.lanes[l'] with state := .ready }
      else u.lanes[l']

/-- The record read of merge `m` completes in `s` with the 64 bytes `bs` (R25). -/
def State.reads (s : State) (m : Merge) (bs : List Byte) : Prop :=
  (s.engine.run = .running ∨ s.engine.run = .draining) ∧ s.merge = some m ∧ m.phase = .reading ∧
    bs = Mem.readBytes s.mem ((s.lanes[m.lane]).recordAddr m.half m.index) 64

/-- The record in merge is `m` of context `k`, has been accepted, and `u` is what R28 brings back should a fault leave it
unfinished. -/
def State.holdsUndo (s : State) (m : Merge) (k : CtxId) (u : Undo) : Prop :=
  s.merge = some m ∧ m.ctx = some k ∧ m.undo = some u

/-- In `t`, the record of merge `m` awaits the write of the disposition `code`, and nothing else differs from `s` (R26). -/
def State.disposes (s t : State) (m : Merge) (bs : List Byte) (code : Byte) : Prop :=
  t = { s with merge := some { m with bytes := bs, phase := .disposition code } }

/-- `t` is `s` after a count-changing record of merge `m` has left context `k` as `c`: one running evaluation (R68 to R71),
its sets changed together, and its enabled events acting by Table 4-3: ALARM on the context's lane, its hold flag, and one
live block rewrite, which the writes of the record then wait for (R73). -/
def State.evaluates (s t : State) (m : Merge) (k : CtxId) (c : Ctx) (word : Option Word) (code : Byte) : Prop :=
  let r := s.recipeFor k
  let set := nextActiveSet r c
  let evs := evaluationEvents c.active set
  let on := evs.any (Event.enabled r)
  t = { s with
    ctxs := t.ctxs
    notices := if on = true then modAt s.notices c.lane fun n => { n with alarm := true } else s.notices
    lanes := if evs.any (Event.holds r) = true then modAt s.lanes c.lane fun n => { n with hold := true } else s.lanes
    merge := some { m with
      phase := if on = true then .awaitLive word code
        else match word with
          | some w => .siteWord w code
          | none => .disposition code }
    messages := t.messages } ∧
  (∀ k' : CtxId, k' ≠ k → t.ctxs[k'] = s.ctxs[k']) ∧
  t.ctxs[k] = { c with
    active := set
    latched := latch c.latched set
    jobs := if on = true then c.jobs ++ [.rewrite .merge] else c.jobs
    slotPhase := (t.ctxs[k]).slotPhase } ∧
  (on = true → c.slotPhase = none → c.jobs = [] →
    (t.ctxs[k]).slotPhase = some (.genOdd { c with active := set, latched := latch c.latched set }.liveContents)) ∧
  (on = false → (t.ctxs[k]).slotPhase = c.slotPhase)

/-- `t` is `s` after the sites of TOUCHDOWN `m` of context `k`, from the one it has reached on, were taken in turn (R31):
stopped at a row that needs a writeback or a fetch (R20), or all resolved. With no site merged the record is refused OFF_MAP;
otherwise it takes its touchdown number and is evaluated, and ends PARTIAL or ACCEPTED by whether some site was OFF_MAP
(R40 to R43); what R28 brings back should a fault leave the record unfinished is kept with the merge (assumption log 28).
Clearing `idleDue` is the model's (assumption log 11). -/
def State.touches (s t : State) (m : Merge) (k : CtxId) : Prop :=
  match runSites (s.recipeFor k) m.bytes ((List.finRange 16).drop m.disps.length) s.ctxs[k] m.disps with
  | .writeback c ds y =>
    t = { s with ctxs := modAt s.ctxs k fun _ => c, merge := some { m with disps := ds, phase := .rowWriteback y } }
  | .fetch c ds y =>
    t = { s with ctxs := modAt s.ctxs k fun _ => c, merge := some { m with disps := ds, phase := .rowFetch y } }
  | .done c ds =>
    ((∀ d ∈ ds, d = .absent ∨ d = .offMap) →
      t = { s with merge := some { m with disps := ds, phase := .disposition 0x13 } }) ∧
    (SiteDisp.merged ∈ ds ∨ SiteDisp.mergedStray ∈ ds →
      s.evaluates t { m with disps := ds, undo := some ⟨c.lastTouch, c.firstTouch, c.idleCount⟩ } k
        { c with
          lastTouch := tdNumber m.bytes
          firstTouch := match c.firstTouch with
            | some f => some f
            | none => some (tdNumber m.bytes)
          idleCount := 0
          idleDue := false }
        (some (BitVec.ofNat 32 (siteWordOf ds))) (if SiteDisp.offMap ∈ ds then 0x02 else 0x01))

/-- `t` is `s` after an ADJUST `m` has set the cell in column `x` of the row that context `k`, as `c`, holds in its window to
`code` (R45, R46): the counts follow the code, the idle count restarts, and the record is evaluated; what R28 brings back
should a fault leave the record unfinished is kept with the merge (assumption log 28). -/
def State.setsCell (s t : State) (m : Merge) (k : CtxId) (c : Ctx) (x : Nat) (code : BinCode) : Prop :=
  let r := s.recipeFor k
  let pass (b : BinCode) : Int := if (r.bins[b]).pass = true then 1 else 0
  let cell := c.cellAt x
  let m : Merge := { m with undo := some ⟨c.lastTouch, c.firstTouch, c.idleCount⟩ }
  let new : MapCell := { cell with state := .adjusted, code := code }
  let set : Ctx := { c with
    cells := c.cells.set x new
    dirty := c.dirty || decide (new ≠ cell)
    idleCount := 0
    idleDue := false }
  (cell.state = .empty → s.evaluates t m k
    { set with
      bins := modAt c.bins code (· + 1), tested := c.tested + 1, good := c.good + pass code } none 0x01) ∧
  (cell.state = .binned ∨ cell.state = .adjusted → cell.code = code → s.evaluates t m k set none 0x01) ∧
  (cell.state = .binned ∨ cell.state = .adjusted → cell.code ≠ code → s.evaluates t m k
    { set with
      bins := modAt (modAt c.bins cell.code (· - 1)) code (· + 1)
      good := c.good - pass cell.code + pass code } none 0x01)

/-- `t` is `s` after an ADJUST `m` that passed its checks has gone on to the cell in column `x` of row `y` (R45, R20): the
row is in the window, or is synthesized into a clean one, and the cell is set; or the merge stops for a writeback of the
dirty window or for the row's fetch. -/
def State.adjusts (s t : State) (m : Merge) (k : CtxId) (x : Nat) (y : RowId) (code : BinCode) : Prop :=
  let c := s.ctxs[k]
  (c.winRow = some y → s.setsCell t m k c x code) ∧
  (∀ w, c.winRow = some w → w ≠ y → c.dirty = true → t = { s with merge := some { m with phase := .rowWriteback y } }) ∧
  (c.winRow ≠ some y → c.winRow = none ∨ c.dirty = false → c.rowsDone[y] = true → t = { s with
    ctxs := modAt s.ctxs k fun c => { c with winRow := none }
    merge := some { m with phase := .rowFetch y } }) ∧
  (c.winRow ≠ some y → c.winRow = none ∨ c.dirty = false → c.rowsDone[y] = false →
    s.setsCell t m k { c with winRow := some y, dirty := true, cells := synthRow (s.recipeFor k) y } x code)

/-- The sum of the 64 counts of a table of bins. -/
def binSum (v : Vector Int 64) : Int := v.toList.sum

/-- The bin counts of a context add up to its tested count (R39). -/
def Ctx.countsAgree (c : Ctx) : Prop := binSum c.bins = c.tested

/-- The bin totals of a lot entry add up to its tested sum (R116). -/
def Lot.totalsAgree (t : Lot) : Prop := binSum t.bins = t.tested

/-- Every context's and every lot entry's counts agree (R39, R116). -/
def State.countsAgree (s : State) : Prop :=
  (∀ k : CtxId, (s.ctxs[k]).countsAgree) ∧ ∀ i : LotId, (s.lots[i]).totalsAgree

/-- Every entry of the first set is an entry of the second. -/
def MonitorSet.within (a b : MonitorSet) : Prop :=
  (a.floor = true → b.floor = true) ∧ (a.gap = true → b.gap = true) ∧ (a.idle = true → b.idle = true) ∧
    (a.trend = true → b.trend = true) ∧ (∀ c : BinCode, a.bins[c] = true → b.bins[c] = true) ∧
    ∀ i : SiteId, a.sites[i] = true → b.sites[i] = true

/-- Every context's latched set contains its active set (R66). -/
def State.latchedHoldsActive (s : State) : Prop := ∀ k : CtxId, (s.ctxs[k]).active.within (s.ctxs[k]).latched

/-- A context's site counters and runs lie in their ranges (R15). -/
def Ctx.sitesInRange (c : Ctx) : Prop :=
  ∀ i : SiteId, c.sitePass[i] ≤ c.siteTested[i] ∧ c.siteTested[i] ≤ Config.siteMax ∧ c.run[i] ≤ Config.runMax

def State.sitesInRange (s : State) : Prop := ∀ k : CtxId, (s.ctxs[k]).sitesInRange

/-- The last-use order holds each entry exactly once (R90). -/
def State.lastUseOk (s : State) : Prop := List.Perm s.lastUse (List.finRange 8)

/-- No more interrupt messages are held than the Bus Port has room for (R163). -/
def State.messagesOk (s : State) : Prop := s.messages ≤ Config.messageCapacity

/-- In DRAINING every writeback that is due has started (R149): the windows' with the Merge Engine IDLE, the trend words' when
in addition no RETIRE is pending and the Close Unit has nothing to serve. An entry still dirty has one in flight, and its own
deferred behind it (R101). -/
def State.drainWorkStarted (s : State) : Prop :=
  s.engine.run = .draining → s.merge = none →
    (∀ k : CtxId, (s.ctxs[k]).state = .opened → (s.ctxs[k]).dirty = true → (s.ctxs[k]).winRow ≠ none →
      (s.ctxs[k]).drainWrite = true) ∧
    ((∀ l, s.command.progress ≠ .retirePending l) → s.closeQ = [] → s.closeUnit = .idle →
      ∀ e : EntryId, (s.cache[e]).dirty = true → (s.cache[e]).writing ≠ none ∧ (s.cache[e]).deferred = true)

/-- A state in which every one of these holds. -/
def State.sound (s : State) : Prop :=
  Mem.wf s.mem = true ∧ s.countsAgree ∧ s.latchedHoldsActive ∧ s.sitesInRange ∧ s.lastUseOk ∧ s.messagesOk

end Sys2Proof.Machine
end

