-- ==== Sys2Proof/WellFormed.lean ====
section
/-!
DEFINITION. The operands a command may carry: what the host or the outside can really present. The index operands
(lane, context, entry) are well formed by their types.
-/

namespace Sys2Proof

/-- A register window access of `bytes` bytes: 1..4, within one 32-bit register (R156). -/
def accessOk (first bytes : Nat) : Bool :=
  decide (1 ≤ bytes) && decide (first % 4 + bytes ≤ 4)

/-- A REGISTER_WRITE is a narrow write, or a full write of a register without behaviour of its own: PROBE_DATA (0x18),
ENGINE_STATE (0x1C) or an offset that holds none of the eight registers (R156, R173). -/
def registerWriteOk (offset bytes : Nat) : Bool :=
  accessOk offset bytes && (decide (bytes < 4) || decide (0x18 ≤ offset))

/-- The five LANE_COMMAND codes are ENABLE 1 to RETIRE 5; a BAD_COMMAND carries 0, 6 or 7 (R173). -/
def badCommandOk (code : BitVec 3) : Bool :=
  decide (code = 0) || decide (code = 6) || decide (code = 7)

/-- Which commands are well formed. -/
def Instr.wellFormed : Instr → Bool
  | .powerOnReset dram => dram.all fun c => decide (c.1 < 2 ^ 32)
  | .portReset landed => landed.all fun c => decide (c.1 < 2 ^ 32)
  | .clear landed => landed.all fun c => decide (c.1 < 2 ^ 32)
  | .summarySlotRead _ (.uncorrectable landed) => landed.all fun c => decide (c.1 < 2 ^ 32)
  | .lotSlotRead _ (.uncorrectable landed) => landed.all fun c => decide (c.1 < 2 ^ 32)
  | .rowFetchDone (.uncorrectable landed) => landed.all fun c => decide (c.1 < 2 ^ 32)
  | .recipeLoadDone _ early .returned => early.all fun c => decide (c.1 < 4096)
  | .recipeLoadDone _ _ (.uncorrectable landed) => landed.all fun c => decide (c.1 < 2 ^ 32)
  | .badCommand code _ => badCommandOk code
  | .engineStateRead first bytes => accessOk first.val bytes
  | .registerWrite offset bytes _ => registerWriteOk offset bytes
  | .memoryWindowWrite addr data => decide (addr.toNat + data.length ≤ 2 ^ 32)
  | .run _ | .scanNow | .flushRecipes | .interruptEnables _ _ | .interruptMode _ | .commonBase _ => true
  | .enable _ | .disable _ | .hold _ | .release _ | .retire _ | .noticeClear _ _ => true
  | .probeRead _ _ _ | .probeWrite _ _ _ | .probeReadAnswer | .probeWriteStore => true
  | .scanTimerExpiry | .secondEvent | .idleExpiry _ | .look _ _ | .lookReturnWritten _ => true
  | .summarySlotRead _ .returned | .lotSlotRead _ .returned | .rowFetchDone .returned => true
  | .grant | .openRecord | .touchdown | .adjust | .close | .lotEnd | .nop | .badKind | .recordReadError => true
  | .rowWritebackDone | .siteWordWritten | .dispositionWritten | .handoverLiveWritten => true
  | .liveGenOddWritten _ | .liveContentsWritten _ | .liveBlockWritten _ | .halfReturnWritten _ => true
  | .retireCarryOut | .skippedWritten | .retireReturnWritten | .trendWritebackDone _ => true
  | .closeWindowWritten | .materializeRowWritten | .summaryWritten | .postedWritten => true
  | .lotSummaryWritten | .lotPostedWritten | .drainWindowWritten _ | .drainEnd => true
  | .commonHeaderRead _ | .coldDescriptorRead _ | .enableDescriptorRead _ => true
  | .interruptMessageSent | .halfFaultedReturnWritten => true

end Sys2Proof
end

