-- ==== Sys2Proof/Certificates/Slice0/Obligations.lean ====
section
/-!
DEFINITION. The statements for the provers. Where a command can raise notices, its statement leaves the number of interrupt
messages held to `MessagesFollowNotices`, which says it for every command.
-/

open Sys2Proof Sys2Proof.Machine

/-! ### The step -/

/-- A step takes the command at the front of the queue and carries it out with the queue's rest. -/
def Obligations.FrontCommandRuns : Prop :=
  ∀ (c : Instr) (cs : List Instr) (s : State), s.pending = c :: cs → step s = exec c { s with pending := cs }

/-- The model's choice (assumption log 2): with no command waiting, a step is one hall tick. It moves nothing outside
RUNNING; in RUNNING the two counters count, and the 1000th tick of the second counter is a second event (R77, R127). -/
def Obligations.EmptyQueueTicks : Prop :=
  ∀ s : State, s.pending = [] →
    (s.engine.run ≠ .running → step s = .next s) ∧
    (s.engine.run = .running → s.scan.timer + 1 < s.engine.config.scanInterval → s.second + 1 < 1000 →
      step s = .next { s with scan := { s.scan with timer := s.scan.timer + 1 }, second := s.second + 1 }) ∧
    (s.engine.run = .running → s.scan.timer + 1 < s.engine.config.scanInterval → 1000 ≤ s.second + 1 →
      exec .secondEvent { s with scan := { s.scan with timer := s.scan.timer + 1 } } = step s) ∧
    (s.engine.run = .running → s.engine.config.scanInterval ≤ s.scan.timer + 1 → s.second + 1 < 1000 →
      ∃ t, exec .scanTimerExpiry s = .next t ∧ step s = .next { t with second := s.second + 1 })

/-! ### Resets, CLEAR and RUN -/

/-- R154, R155: both resets put every register and all on-chip state at reset values (the counts of ENGINE_STATE then
read 24, 8 and 0) and write no collation memory; a port reset leaves of the part's writes in flight the bytes that had
landed (assumption log 7), a power-on reset the bytes that the DRAM then holds. The commands that wait are the model's own and
still wait. Table 8-5: any byte in flight may have landed; each bit of a hand-over word, such as the RETURNED word of a half,
may be the old or the new one; and the generation of a live block whose contents are being written may be even (assumption
log 36). Where the engine is FAULTED no write is in flight. -/
def Obligations.ResetsClearTheChip : Prop :=
  State.reset.freeContexts = 24 ∧ State.reset.freeLots = 8 ∧ State.reset.validEntries = 0 ∧
  (∀ (dram : List Host.Cell) (s : State), ∃ t, exec (.powerOnReset dram) s = .next t ∧
    t = { State.reset with mem := t.mem, pending := s.pending } ∧
    ∀ a, (∀ c ∈ dram, c.1 ≠ a) → Mem.read t.mem a = Mem.read s.mem a) ∧
  ∀ (landed : List Host.Cell) (s : State), ∃ t, exec (.portReset landed) s = .next t ∧
    t = { State.reset with mem := t.mem, pending := s.pending } ∧ s.stopsWrites t s.resetLands landed ∧
    (∀ c, c ∈ s.inFlight → s.resetLands c = true) ∧
    (∀ (a : Nat) (new v : Byte), (a, new) ∈ s.wordCells →
      (∀ n < 8, v.getLsbD n = (Mem.read s.mem a).getLsbD n ∨ v.getLsbD n = new.getLsbD n) → s.resetLands (a, v) = true) ∧
    (s.engine.run = .faulted → ∀ c, s.resetLands c = false) ∧
    (s.engine.run ≠ .faulted →
      (∀ (l : LaneId) (v : InService), s.lanes[l].ret = .writing → s.lanes[l].inService = some v →
        ∀ i : Fin 4, (s.lanes[l].halfAddr v.half + i.val,
          ([2, 1, BitVec.ofNat 8 v.count, BitVec.ofNat 8 (v.count / 256)] : List Byte)[i]) ∈ s.wordCells) ∧
      ∀ (k : CtxId) (bs : List Byte) (g : Word), s.ctxs[k].slotPhase = some (.contents bs) →
        g = s.ctxs[k].generation ∨ g = s.ctxs[k].generation + 2 →
        ∀ i : Fin 4, s.resetLands (s.engine.config.slotBase + k.val * 1024 + 64 + i.val,
          g.extractLsb' (8 * i.val) 8) = true)

/-- R152: where CLEAR is taken and what it keeps; a refused CLEAR sets REFUSED and changes nothing else. That the probe
direction is kept is the model's choice (assumption log 30), and so is the order in which the bytes of a flush's writebacks
landed (assumption log 7). -/
def Obligations.ClearTakenOrRefused : Prop :=
  ∀ (landed : List Host.Cell) (s : State),
    ((s.engine.run = .faulted ∨ s.engine.run = .stopped ∧ s.engine.start = .none) →
      ∃ t, exec (.clear landed) s = .next t ∧
        t = { State.reset with
          control := { s.control with run := false }
          common := s.common
          messages := s.messages
          probe := { s.probe with busy := false, err := false }
          readValue := s.readValue
          mem := t.mem
          pending := s.pending } ∧
        s.stopsWrites t s.lands landed ∧
        (s.engine.run = .faulted → t.mem = s.mem)) ∧
    ((s.engine.run = .running ∨ s.engine.run = .draining ∨ s.engine.run = .stopped ∧ s.engine.start ≠ .none) →
      exec (.clear landed) s = .next { s with flags := { s.flags with refused := true } })

/-- R144: the table of RUN's effects by run state, the field holding the value written, and, in every run state, the CONTROL
write that carries both the CLEAR pulse and a RUN value (bits 18 and 16 of the write are their mask bits): the CLEAR, then RUN
against the state it leaves. That no byte of a flush's writeback has landed where such a write's CLEAR stops it is the model's
choice (assumption log 9). -/
def Obligations.RunActsByState : Prop :=
  ∀ s : State,
    (s.engine.run = .stopped → s.engine.start = .none → s.engine.configured = false →
      exec (.run true) s = .next { s with
        control := { s.control with run := true }
        engine := { s.engine with start := .header, stopPending := false } }) ∧
    (s.engine.run = .stopped → s.engine.start = .none → s.engine.configured = true →
      exec (.run true) s = .next { s with
        control := { s.control with run := true }
        engine := { s.engine with run := .running } }) ∧
    (s.engine.run = .stopped → s.engine.start = .none →
      exec (.run false) s = .next { s with control := { s.control with run := false } }) ∧
    (∀ v, s.engine.run = .stopped → s.engine.start ≠ .none →
      exec (.run v) s = .next { s with
        control := { s.control with run := v }
        engine := { s.engine with stopPending := !v } }) ∧
    (s.engine.run = .running →
      exec (.run true) s = .next { s with control := { s.control with run := true } } ∧
      ∃ t, exec (.run false) s = .next t ∧ t.control = { s.control with run := false } ∧
        t.engine = { s.engine with run := .draining, warmPending := false }) ∧
    (∀ v, s.engine.run = .draining →
      exec (.run v) s = .next { s with
        control := { s.control with run := v }
        engine := { s.engine with warmPending := v } }) ∧
    (∀ v, s.engine.run = .faulted → exec (.run v) s = .next { s with control := { s.control with run := v } }) ∧
    (∀ landed t u, s.engine.run = .faulted → exec (.run true) s = .next t → exec (.clear landed) t = .next u →
      u.engine = Engine.reset ∧ u.control.run = false) ∧
    (s.engine.run = .faulted → ∃ t, exec (.registerWrite 0x00 4 0x00050005) s = .next t ∧
      t.engine = { Engine.reset with start := .header } ∧ t.control.run = true) ∧
    (s.engine.run = .running →
      (∃ t, exec (.registerWrite 0x00 4 0x00050005) s = .next t ∧ t.engine = s.engine ∧ t.flags.refused = true) ∧
      ∃ t, exec (.registerWrite 0x00 4 0x00050004) s = .next t ∧
        t.engine = { s.engine with run := .draining, warmPending := false } ∧ t.flags.refused = true) ∧
    ∀ v : Bool, ∃ t u, exec (.clear []) s = .next t ∧ exec (.run v) t = .next u ∧
      exec (.registerWrite 0x00 4 (if v = true then 0x00050005 else 0x00050004)) s = .next u

/-- R148, R149: what the event that begins a drain does (the rescan flag is cleared, expiries not yet taken are dropped:
assumption log 11; and the writebacks that are due at once start), and the end of the drain, in STOPPED with DRAINED or as a
warm start. -/
def Obligations.DrainBeginsAndEnds : Prop :=
  (∀ s : State, s.engine.run = .running → ∃ t, exec (.run false) s = .next t ∧
     t = { s with
       control := { s.control with run := false }
       engine := { s.engine with run := .draining, warmPending := false }
       scan := { s.scan with rescan := false }
       ctxs := t.ctxs
       cache := t.cache } ∧
     (∀ k : CtxId, t.ctxs[k] = { s.ctxs[k] with
       idleDue := false
       drainWrite := s.ctxs[k].drainWrite ||
         (s.merge.isNone && decide (s.ctxs[k].state = .opened) && s.ctxs[k].dirty && s.ctxs[k].winRow.isSome) }) ∧
     ∀ e : EntryId,
       if s.merge = none ∧ (∀ l, s.command.progress ≠ .retirePending l) ∧ s.closeQ = [] ∧ s.closeUnit = .idle ∧
           s.cache[e].dirty = true then
         (s.cache[e].writing.isSome = true → t.cache[e] = { s.cache[e] with deferred := true }) ∧
         (s.cache[e].writing = none → t.cache[e] = { s.cache[e] with
           dirty := false
           writing := some ⟨s.engine.config.recipeTable + s.cache[e].number * 4096 + 36, s.cache[e].trendE,
             s.cache[e].trendCnt⟩ })
       else t.cache[e] = s.cache[e]) ∧
  (∀ s : State, s.engine.run = .draining → s.merge = none → s.closeQ = [] → s.closeUnit = .idle →
     s.scan.pass = none → s.command.progress = .none →
     (∀ l : LaneId, s.lanes[l].look = none ∧ s.lanes[l].ret = .none) →
     (∀ k : CtxId, s.ctxs[k].jobs = [] ∧ s.ctxs[k].slotPhase = none ∧ s.ctxs[k].drainWrite = false ∧
       (s.ctxs[k].state = .opened → s.ctxs[k].dirty = false)) →
     (∀ e : EntryId, s.cache[e].writing = none ∧ s.cache[e].state ≠ .loading ∧ s.cache[e].dirty = false) →
     (s.engine.warmPending = true →
       exec .drainEnd s = .next { s with engine := { s.engine with run := .running, warmPending := false } }) ∧
     (s.engine.warmPending = false → ∃ t, exec .drainEnd s = .next t ∧
       t = { s with
         engine := { s.engine with run := .stopped }
         flags := { s.flags with drained := true }
         messages := t.messages }))

/-- R145, R146: the common header of a cold start passes its checks and gives the configuration, or the engine faults
BAD_COMMON and takes no value; each descriptor then sets its lane, and after lane 15 the start completes, into RUNNING or,
with a stop pending, into DRAINING. The scan interval is held with 0 taken as 1 (assumption log 24). -/
def Obligations.ColdStart : Prop :=
  (∀ (bad : Bool) (s : State), s.engine.run = .stopped → s.engine.start = .header →
     let b := s.common.toNat
     let w (o : Nat) : Nat := get32 (fun i => Mem.read s.mem (b + i)) o
     let ok : Prop := bad = false ∧ b % 64 = 0 ∧ b + 320 ≤ 2 ^ 32 ∧ w 0 = 1 ∧ 1 ≤ w 4 ∧ w 4 ≤ 256 ∧
       w 8 % 4096 = 0 ∧ w 8 + w 4 * 4096 ≤ 2 ^ 32 ∧ w 12 % 4096 = 0 ∧ w 12 + w 16 ≤ 2 ^ 32 ∧
       w 20 ≠ 0 ∧ w 20 % 4096 = 0 ∧ 24 * w 20 ≤ w 16 ∧ w 24 % 1024 = 0 ∧ w 24 + 24 * 1024 ≤ 2 ^ 32 ∧
       w 28 % 512 = 0 ∧ w 28 + 8 * 512 ≤ 2 ^ 32
     (ok → exec (.commonHeaderRead bad) s = .next { s with
       engine := { s.engine with
         start := .descriptor 0
         config := ⟨w 4, w 8, w 12, w 20, w 24, w 28, max 1 (Mem.read s.mem (b + 32)).toNat⟩ } }) ∧
     (¬ ok → ∃ t, exec (.commonHeaderRead bad) s = .next t ∧
       t = { s with
         engine := { s.engine with
           run := .faulted, fault := .badCommon, start := .none, stopPending := false, warmPending := false }
         flags := { s.flags with engine := true }
         messages := t.messages })) ∧
  (∀ (bad : Bool) (l : LaneId) (s : State), s.engine.run = .stopped → s.engine.start = .descriptor l →
     let d := descriptorOf (memSrc s.mem (s.common.toNat + 64 + 16 * l.val))
     ∃ t, exec (.coldDescriptorRead bad) s = .next t ∧
       t.lanes = (if bad = true then modAt s.lanes l fun n => { n with state := .faulted, cause := .memLane }
         else if d.enabled = false then modAt s.lanes l fun n => { n with state := .disabled }
         else if d.ok = true then modAt s.lanes l fun n => { n with
           state := .idle, expected := .a, inService := none, cause := .none, priority := d.priority
           capacity := d.capacity, halfA := d.halfA, halfB := d.halfB }
         else modAt s.lanes l fun n => { n with state := .faulted, cause := .badDescriptor }) ∧
       t.notices = (if bad = true ∨ d.enabled = true ∧ d.ok = false then
         modAt s.notices l fun n => { n with fault := true } else s.notices) ∧
       (∀ h : l.val < 15, t = { s with
         engine := { s.engine with start := .descriptor ⟨l.val + 1, Nat.succ_lt_succ h⟩ }
         lanes := t.lanes
         notices := t.notices
         messages := t.messages }) ∧
       (l.val = 15 → s.engine.stopPending = false → t = { s with
         engine := { s.engine with configured := true, start := .none, run := .running }
         lanes := t.lanes
         notices := t.notices
         messages := t.messages }) ∧
       (l.val = 15 → s.engine.stopPending = true → t.engine = { s.engine with
         configured := true, start := .none, stopPending := false, run := .draining, warmPending := false }))

/-- R153: where a COMMON_BASE write is taken; elsewhere it is ignored and REFUSED is set. A port reset and a power-on reset
set the register to 0 and CLEAR keeps it. -/
def Obligations.CommonBaseWrite : Prop :=
  ∀ (v : Word) (s : State),
    (s.engine.run = .stopped → s.engine.configured = false → s.engine.start = .none →
      exec (.commonBase v) s = .next { s with common := v }) ∧
    ((s.engine.configured = true ∨ s.engine.start ≠ .none ∨ s.engine.run ≠ .stopped) →
      exec (.commonBase v) s = .next { s with flags := { s.flags with refused := true } }) ∧
    s.registerValue 0x04 = s.common ∧
    (∀ dram t, exec (.powerOnReset dram) s = .next t → t.common = 0) ∧
    (∀ landed t, exec (.portReset landed) s = .next t → t.common = 0) ∧
    ∀ landed t, exec (.clear landed) s = .next t → t.common = s.common

/-! ### Scan, flush, CONTROL -/

/-- R127, R128: when a pass starts and which read it issues first: the looks of idle lanes, then the slots of CLOSED
contexts, then those of POSTED lot entries, each in ascending order. A lane whose RETIRE waits to be carried out is passed
by (assumption log 12). -/
def Obligations.ScanPassStarts : Prop :=
  ∀ s : State,
    let wants (l : LaneId) : Prop := s.lanes[l].state = .idle ∧ s.lanes[l].inService = none ∧ s.lanes[l].look = none ∧
      s.command.progress ≠ .retirePending l
    (s.engine.run ≠ .running → exec .scanNow s = .next s ∧ exec .scanTimerExpiry s = .next s) ∧
    (s.engine.run = .running → s.scan.pass ≠ none →
      exec .scanNow s = .next { s with scan := { s.scan with rescan := true } } ∧
      exec .scanTimerExpiry s = .next { s with scan := { s.scan with timer := 0 } }) ∧
    (s.engine.run = .running → s.scan.pass = none →
      ∃ t, exec .scanNow s = .next t ∧
        exec .scanTimerExpiry s = .next { t with scan := { t.scan with timer := 0 } } ∧
        (∀ l, wants l → (∀ l' < l, ¬ wants l') → t = { s with
          scan := { s.scan with pass := some (.lane l) }
          lanes := modAt s.lanes l fun n =>
            { n with look := some ⟨n.expected, n.halfAddr n.expected, true, false, .reading⟩ } }) ∧
        (∀ k : CtxId, (∀ l, ¬ wants l) → s.ctxs[k].state = .closed → (∀ k' < k, s.ctxs[k'].state ≠ .closed) →
          t = { s with scan := { s.scan with pass := some (.ctx k) } }) ∧
        (∀ i : LotId, (∀ l, ¬ wants l) → (∀ k : CtxId, s.ctxs[k].state ≠ .closed) → s.lots[i].state = .posted →
          (∀ i' < i, s.lots[i'].state ≠ .posted) → t = { s with scan := { s.scan with pass := some (.lot i) } }) ∧
        ((∀ l, ¬ wants l) → (∀ k : CtxId, s.ctxs[k].state ≠ .closed) → (∀ i : LotId, s.lots[i].state ≠ .posted) →
          t = s))

/-- R100: a flush is taken in RUNNING and STOPPED, and marks every entry of the cache; elsewhere it sets REFUSED. That a
clean unpinned entry becomes INVALID also with a trend writeback in flight is assumption log 17. -/
def Obligations.FlushMarksEveryEntry : Prop :=
  ∀ s : State,
    (s.engine.run = .draining ∨ s.engine.run = .faulted →
      exec .flushRecipes s = .next { s with flags := { s.flags with refused := true } }) ∧
    (s.engine.run = .running ∨ s.engine.run = .stopped → ∃ t, exec .flushRecipes s = .next t ∧
      t = { s with cache := t.cache, lanes := t.lanes } ∧
      (∀ e : EntryId, s.cache[e].state = .valid → s.cache[e].dirty = false → s.cache[e].pins = 0 →
        t.cache[e] = { s.cache[e] with
          state := .invalid, stale := false, mark := none, waiters := Vector.replicate 16 false }) ∧
      (∀ e : EntryId, s.cache[e].state = .valid → s.cache[e].dirty = false → 0 < s.cache[e].pins →
        t.cache[e] = { s.cache[e] with stale := true }) ∧
      (∀ e : EntryId, s.cache[e].state = .valid → s.cache[e].dirty = true → s.cache[e].writing = none →
        t.cache[e] = { s.cache[e] with
          stale := true, dirty := false
          writing := some ⟨s.engine.config.recipeTable + s.cache[e].number * 4096 + 36, s.cache[e].trendE,
            s.cache[e].trendCnt⟩ }) ∧
      (∀ e : EntryId, s.cache[e].state = .valid → s.cache[e].dirty = true → s.cache[e].writing ≠ none →
        t.cache[e] = { s.cache[e] with stale := true, deferred := true }) ∧
      (∀ e : EntryId, s.cache[e].state = .loading → t.cache[e] = { s.cache[e] with stale := true }) ∧
      (∀ e : EntryId, s.cache[e].state = .invalid → t.cache[e] = { s.cache[e] with mark := none }) ∧
      ∀ l : LaneId, t.lanes[l] =
        if s.lanes[l].state = .waitRecipe ∧
            ∃ e : EntryId, s.cache[e].state = .valid ∧ s.cache[e].dirty = false ∧ s.cache[e].pins = 0 then
          { s.lanes[l] with state := .ready }
        else s.lanes[l])

/-- R161, R162, R163: the enables selected by the mask take the values written, and the mode takes its value; a notice register
write clears the flags written as 1 of its eight lanes. Nothing else changes but the messages held. -/
def Obligations.EnablesModeAndNotices : Prop :=
  (∀ (mask value : BitVec 5) (each : Bool) (s : State),
     (∃ t, exec (.interruptEnables mask value) s = .next t ∧
       t = { s with control := { s.control with ien := t.control.ien }, messages := t.messages } ∧
       (let e := s.control.ien
        t.control.ien =
         ⟨if mask.getLsbD 0 then value.getLsbD 0 else e.handback, if mask.getLsbD 1 then value.getLsbD 1 else e.close,
           if mask.getLsbD 2 then value.getLsbD 2 else e.alarm, if mask.getLsbD 3 then value.getLsbD 3 else e.fault,
           if mask.getLsbD 4 then value.getLsbD 4 else e.engine⟩)) ∧
     exec (.interruptMode each) s = .next { s with control := { s.control with each := each } }) ∧
  (∀ (hi : Bool) (bits : Word) (s : State), ∃ t, exec (.noticeClear hi bits) s = .next t ∧
     t = { s with notices := t.notices } ∧
     ∀ l : LaneId, t.notices[l] =
       if decide (8 ≤ l.val) = hi then
         let b := 4 * (l.val % 8)
         ⟨s.notices[l].handback && !bits.getLsbD b, s.notices[l].close && !bits.getLsbD (b + 1),
           s.notices[l].alarm && !bits.getLsbD (b + 2), s.notices[l].fault && !bits.getLsbD (b + 3)⟩
       else s.notices[l])

/-! ### Lane commands -/

/-- R138 to R140: with a command in progress a write is ignored and sets REFUSED; a code that names none of the five is
BAD_COMMAND; outside RUNNING the outcome is ENGINE_NOT_RUNNING; ENABLE, DISABLE, HOLD and RELEASE taken in RUNNING. -/
def Obligations.LaneCommandsDecided : Prop :=
  (∀ (l : LaneId) (s : State) (c : Instr) (code : BitVec 3),
     (c = .enable l ∧ code = 1 ∨ c = .disable l ∧ code = 2 ∨ c = .hold l ∧ code = 3 ∨ c = .release l ∧ code = 4 ∨
       c = .retire l ∧ code = 5 ∨ c = .badCommand code l ∧ (code = 0 ∨ code = 6 ∨ code = 7)) →
     (s.command.progress ≠ .none → exec c s = .next { s with flags := { s.flags with refused := true } }) ∧
     (s.command.progress = .none → c = .badCommand code l →
       exec c s = .next { s with command := ⟨code, l, .badCommand, .none⟩ }) ∧
     (s.command.progress = .none → c ≠ .badCommand code l → s.engine.run ≠ .running →
       exec c s = .next { s with command := ⟨code, l, .engineNotRunning, .none⟩ })) ∧
  (∀ (l : LaneId) (s : State), s.engine.run = .running → s.command.progress = .none →
     (s.lanes[l].state = .disabled → exec (.enable l) s = .next { s with command := ⟨1, l, .pending, .enabling l⟩ }) ∧
     (s.lanes[l].state ≠ .disabled → exec (.enable l) s = .next { s with command := ⟨1, l, .notDisabled, .none⟩ }) ∧
     (s.lanes[l].inService = none → s.lanes[l].ctx = none → exec (.disable l) s = .next { s with
       lanes := modAt s.lanes l fun n =>
         { n with state := .disabled, look := n.look.map fun k => { k with void := true } }
       command := ⟨2, l, .done, .none⟩ }) ∧
     (s.lanes[l].inService ≠ none ∨ s.lanes[l].ctx ≠ none →
       exec (.disable l) s = .next { s with command := ⟨2, l, .laneBusy, .none⟩ }) ∧
     exec (.hold l) s = .next { s with
       lanes := modAt s.lanes l fun n => { n with hold := true }
       command := ⟨3, l, .done, .none⟩ } ∧
     exec (.release l) s = .next { s with
       lanes := modAt s.lanes l fun n => { n with hold := false }
       command := ⟨4, l, .done, .none⟩ })

/-- R139, R122: the descriptor read of an ENABLE makes the lane IDLE on half A, or FAULTED with a cause and FAULT; and the
fields of a descriptor with the test that makes it valid: capacity 1..256, both halves aligned to 64, inside memory, and not
overlapping. -/
def Obligations.EnableReadsDescriptorWord : Prop :=
  (∀ (bad : Bool) (l : LaneId) (s : State), s.engine.run = .running ∨ s.engine.run = .draining →
     s.command.progress = .enabling l →
     let d := descriptorOf (memSrc s.mem (s.common.toNat + 64 + 16 * l.val))
     ∃ t, exec (.enableDescriptorRead bad) s = .next t ∧
       t = { s with
         command := { s.command with outcome := .done, progress := .none }
         lanes := t.lanes
         notices := t.notices
         messages := t.messages } ∧
       t.lanes = (if bad = true then modAt s.lanes l fun n => { n with state := .faulted, cause := .memLane }
         else if d.ok = true then modAt s.lanes l fun n => { n with
           state := .idle, expected := .a, inService := none, cause := .none, priority := d.priority
           capacity := d.capacity, halfA := d.halfA, halfB := d.halfB }
         else modAt s.lanes l fun n => { n with state := .faulted, cause := .badDescriptor }) ∧
       t.notices = if bad = true ∨ d.ok = false then modAt s.notices l fun n => { n with fault := true } else s.notices) ∧
  (∀ src : Nat → Byte,
     let byte (o : Nat) : Nat := (src o).toNat
     let d := descriptorOf src
     let n := 64 + d.capacity * 64
     d.enabled = (src 0).getLsbD 0 ∧ d.priority.val = byte 1 % 4 ∧ d.capacity = byte 2 + 256 * byte 3 ∧
     d.halfA = byte 4 + 256 * byte 5 + 65536 * byte 6 + 16777216 * byte 7 ∧
     d.halfB = byte 8 + 256 * byte 9 + 65536 * byte 10 + 16777216 * byte 11 ∧
     (d.ok = true ↔ 1 ≤ d.capacity ∧ d.capacity ≤ 256 ∧ d.halfA % 64 = 0 ∧ d.halfB % 64 = 0 ∧ d.halfA + n ≤ 2 ^ 32 ∧
       d.halfB + n ≤ 2 ^ 32 ∧ (d.halfA + n ≤ d.halfB ∨ d.halfB + n ≤ d.halfA)))

/-- R141, R8: a RETIRE taken waits for the merge or the return of its lane, is turned away on a DISABLED lane, and otherwise is
carried out at once; RETIRE_CARRY_OUT carries out one that waited, in RUNNING or DRAINING. The lane is DISABLED, its hold is
clear, a look in flight is void, it is in no waiter set (R99: the lanes in WAIT_RECIPE return to READY where that makes an
entry a victim candidate), its bound context is enqueued for close with cause RETIRED, and its half, if any, is ended by the
SKIPPED writes. That the hold is cleared before the close is served is assumption log 27, that the live block rewrite takes
its contents before the close is served is assumption log 33, and clearing `idleDue` is assumption log 11. -/
def Obligations.RetireCarriedOut : Prop :=
  ∀ (l : LaneId) (s : State), s.engine.run = .running ∨ s.engine.run = .draining →
    let busy : Prop := (∃ m, s.merge = some m ∧ m.lane = l) ∨ s.lanes[l].ret ≠ .none
    let retired (u : State) : Prop :=
      u = { s with lanes := u.lanes, cache := u.cache } ∧
      (∀ e : EntryId, u.cache[e] = { s.cache[e] with waiters := s.cache[e].waiters.set l false }) ∧
      u.lanes[l] = { s.lanes[l] with
        state := .disabled, hold := false, look := s.lanes[l].look.map fun k => { k with void := true } } ∧
      ∀ l' : LaneId, l' ≠ l → u.lanes[l'] =
        if s.lanes[l'].state = .waitRecipe ∧
            ∃ e : EntryId, s.cache[e].waiters[l] = true ∧ (∀ i : LaneId, i ≠ l → s.cache[e].waiters[i] = false) ∧
              s.cache[e].state ≠ .loading ∧ s.cache[e].pins = 0 ∧ s.cache[e].writing = none then
          { s.lanes[l'] with state := .ready }
        else s.lanes[l']
    let closed (u : State) (k : CtxId) : State :=
      let v : State := { u with
        ctxs := modAt s.ctxs k fun c => { c with state := .closing, cause := .retired, bound := false, idleDue := false }
        lanes := modAt u.lanes s.ctxs[k].lane fun n => { n with ctx := none } }
      State.serve { v.rewrite k .nothing with closeQ := s.closeQ ++ [.ctx k] }
    let carried (v : State) : Prop := ∃ u, retired u ∧
      v = { (match s.lanes[l].ctx with | some k => closed u k | none => u) with
        command := if s.lanes[l].inService = none then ⟨5, l, .done, .none⟩ else ⟨5, l, .pending, .retireSkipping l⟩ }
    (s.engine.run = .running → s.command.progress = .none →
      (s.lanes[l].state = .disabled → exec (.retire l) s = .next { s with command := ⟨5, l, .notActive, .none⟩ }) ∧
      (s.lanes[l].state ≠ .disabled → busy →
        exec (.retire l) s = .next { s with command := ⟨5, l, .pending, .retirePending l⟩ }) ∧
      (s.lanes[l].state ≠ .disabled → ¬ busy →
        ∃ v t, exec (.retire l) s = .next t ∧ carried v ∧ t = { v with messages := t.messages })) ∧
    (s.command.progress = .retirePending l →
      (busy → exec .retireCarryOut s = .next s) ∧
      (¬ busy → ∃ v t, exec .retireCarryOut s = .next t ∧ carried v ∧
        t = { v.drainWork with messages := t.messages } ∧
        (s.engine.run = .running → t = { v with messages := t.messages })))

/-- R141 steps 2 to 4, R137: the records from the half's next index on are disposed SKIPPED and the index moves past them;
then the half is returned RETIRED, it leaves service, HANDBACK is set and the command is DONE. In RUNNING nothing else
changes. That the index moves in the event of the last SKIPPED write is the model's choice (assumption log 35). -/
def Obligations.RetireReturnsHalf : Prop :=
  ∀ (l : LaneId) (v : InService) (s : State), s.lanes[l].inService = some v →
    (s.engine.run = .running ∨ s.engine.run = .draining → s.command.progress = .retireSkipping l →
      ∃ t, exec .skippedWritten s = .next t ∧
        t = { s with
          mem := t.mem, past := t.past
          lanes := modAt s.lanes l fun n => { n with inService := some { v with next := max v.next v.count } }
          command := { s.command with progress := .retireReturning l } } ∧
        t.past = s.past ++ s.replaced ((List.range' v.next (v.count - v.next)).map fun i =>
          (s.lanes[l].recordAddr v.half i + 1, 3)) ∧
        (Mem.wf s.mem = true → ∀ i, v.next ≤ i → i < v.count → s.lanes[l].recordAddr v.half i + 1 < 2 ^ 32 →
          Mem.read t.mem (s.lanes[l].recordAddr v.half i + 1) = 3) ∧
        ∀ a, (∀ i, v.next ≤ i → i < v.count → a ≠ s.lanes[l].recordAddr v.half i + 1) →
          Mem.read t.mem a = Mem.read s.mem a) ∧
    (s.engine.run = .running → s.command.progress = .retireReturning l →
      ∃ t, exec .retireReturnWritten s = .next t ∧
        t = { s with
          mem := t.mem, past := t.past
          lanes := modAt s.lanes l fun n => { n with inService := none }
          notices := modAt s.notices l fun n => { n with handback := true }
          command := { s.command with outcome := .done, progress := .none }
          messages := t.messages } ∧
        s.stores t (s.lanes[l].halfAddr v.half)
          [2, 3, BitVec.ofNat 8 v.count, BitVec.ofNat 8 (v.count / 256)])

/-! ### Register accesses -/

/-- R164, R162: the fields of ENGINE_STATE as they stand, PEND among them; a read, of any of its bytes, returns the
addressed bytes and clears the three indicators, and changes nothing else. -/
def Obligations.EngineStateReadClears : Prop :=
  ∀ (first : Fin 4) (bytes : Nat) (s : State),
    let v := s.registerValue 0x1C
    (∃ t, exec (.engineStateRead first bytes) s = .next t ∧
      t = { s with readValue := t.readValue, flags := ⟨false, false, false⟩ } ∧
      (bytes ≤ 4 → t.readValue.toNat = v.toNat / 256 ^ first.val % 256 ^ bytes)) ∧
    v.toNat % 16 = s.engine.run.code ∧ v.toNat / 2 ^ 4 % 16 = s.engine.fault.code ∧
    (v.toNat / 2 ^ 8 % 2 = 1 ↔
      (∃ l : LaneId, s.control.ien.handback = true ∧ s.notices[l].handback = true ∨
        s.control.ien.close = true ∧ s.notices[l].close = true ∨
        s.control.ien.alarm = true ∧ s.notices[l].alarm = true ∨
        s.control.ien.fault = true ∧ s.notices[l].fault = true) ∨
      s.control.ien.engine = true ∧ (s.flags.drained = true ∨ s.flags.engine = true)) ∧
    v.toNat / 2 ^ 9 % 2 = s.flags.refused.toNat ∧ v.toNat / 2 ^ 10 % 2 = s.flags.drained.toNat ∧
    v.toNat / 2 ^ 11 % 2 = s.flags.engine.toNat ∧ v.toNat / 2 ^ 12 % 256 = s.freeContexts ∧
    v.toNat / 2 ^ 20 % 16 = s.freeLots ∧ v.toNat / 2 ^ 24 = s.validEntries

/-- R156, R157: a write of fewer than 32 bits at one of the eight registers is ignored and sets REFUSED; a full write acts as
the command of its register; ENGINE_STATE and every offset above take none; a CONTROL write with mask 0 changes nothing.
R158: the parts of one CONTROL write act in the order RUN, FLUSH_RECIPES, SCAN_NOW (CLEAR, which comes first, is in
`RunActsByState`), each where its mask bit, 16 above its own, selects it. -/
def Obligations.RegisterAndControlWrites : Prop :=
  (∀ (v : Word) (s : State),
     (∀ offset bytes, offset < 0x20 → bytes < 4 →
       exec (.registerWrite offset bytes v) s = .next { s with flags := { s.flags with refused := true } }) ∧
     (∀ offset, 0x1C ≤ offset → exec (.registerWrite offset 4 v) s = .next s) ∧
     exec (.registerWrite 0x18 4 v) s = .next { s with probe := { s.probe with data := v } } ∧
     exec (.registerWrite 0x04 4 v) s = exec (.commonBase v) s ∧
     exec (.registerWrite 0x0C 4 v) s = exec (.noticeClear false v) s ∧
     exec (.registerWrite 0x10 4 v) s = exec (.noticeClear true v) s ∧
     (v.getLsbD 24 = false → exec (.registerWrite 0x14 4 v) s =
       exec (.probeRead (v.extractLsb' 0 11) (v.extractLsb' 11 5) (v.extractLsb' 16 3)) s) ∧
     (v.getLsbD 24 = true → exec (.registerWrite 0x14 4 v) s =
       exec (.probeWrite (v.extractLsb' 0 11) (v.extractLsb' 11 5) (v.extractLsb' 16 3)) s) ∧
     (let l : LaneId := Fin.ofNat 16 v.toNat
      let code := v.toNat / 256 % 8
      (code = 1 → exec (.registerWrite 0x08 4 v) s = exec (.enable l) s) ∧
      (code = 2 → exec (.registerWrite 0x08 4 v) s = exec (.disable l) s) ∧
      (code = 3 → exec (.registerWrite 0x08 4 v) s = exec (.hold l) s) ∧
      (code = 4 → exec (.registerWrite 0x08 4 v) s = exec (.release l) s) ∧
      (code = 5 → exec (.registerWrite 0x08 4 v) s = exec (.retire l) s)) ∧
     (v.toNat < 65536 → exec (.registerWrite 0x00 4 v) s = .next s)) ∧
  (∀ (s : State) (r f n : Bool), ∃ t u w : State,
     exec (.run r) s = .next t ∧
     (f = true → exec .flushRecipes t = .next u) ∧ (f = false → u = t) ∧
     (n = true → exec .scanNow u = .next w) ∧ (n = false → w = u) ∧
     exec (.registerWrite 0x00 4 (BitVec.ofNat 32 (2 ^ 16 + r.toNat + 524296 * f.toNat + 131074 * n.toNat))) s = .next w)

/-! ### The Probe Window -/

/-- R165, R167, R82: a PROBE_ADDR write while busy is ignored and sets the error flag, otherwise it begins a transaction;
the two writable targets are an OPEN context's idle limit and a lane's priority 0..3, and every other target sets the error
flag and is left alone. Clearing `idleDue` is the model's choice (assumption log 11); so is that the restart reaches the count
that a fault would bring back (R28; assumption log 28). -/
def Obligations.ProbeTransactions : Prop :=
  (∀ (word : BitVec 11) (index : BitVec 5) (region : BitVec 3) (s : State),
     (s.probe.busy = true →
       exec (.probeRead word index region) s = .next { s with probe := { s.probe with err := true } } ∧
       exec (.probeWrite word index region) s = .next { s with probe := { s.probe with err := true } }) ∧
     (s.probe.busy = false →
       exec (.probeRead word index region) s =
         .next { s with probe := ⟨word, index, region, false, true, false, s.probe.data, s.probe.store⟩ } ∧
       exec (.probeWrite word index region) s =
         .next { s with probe := ⟨word, index, region, true, true, false, s.probe.data, s.probe.data⟩ }) ∧
     (let v := (s.registerValue 0x14).toNat
      v % 2 ^ 11 = s.probe.word.toNat ∧ v / 2 ^ 11 % 2 ^ 5 = s.probe.index.toNat ∧
      v / 2 ^ 16 % 2 ^ 3 = s.probe.region.toNat ∧ v / 2 ^ 24 % 2 = s.probe.isWrite.toNat ∧
      v / 2 ^ 30 % 2 = s.probe.err.toNat ∧ v / 2 ^ 31 = s.probe.busy.toNat)) ∧
  (∀ s : State, s.probe.busy = true → s.probe.isWrite = true →
     let r := s.probe.region.toNat
     let i := s.probe.index.toNat
     let n := s.probe.word.toNat
     let limit := s.probe.store.toNat % 65536
     (∀ h : i < 24, r = 1 → n = 15 → (s.ctxs[i]).state = .opened → ∃ t, exec .probeWriteStore s = .next t ∧
       t = { s with
         ctxs := modAt s.ctxs ⟨i, h⟩ fun c =>
           { c with idleLimit := limit, idleCount := if limit = 0 then c.idleCount else 0, idleDue := false }
         merge := t.merge
         probe := { s.probe with busy := false } } ∧
       (∀ m k u, s.holdsUndo m k u → t.merge = some { m with
         undo := some (if k.val = i ∧ limit ≠ 0 then { u with idleCount := 0 } else u) }) ∧
       ((∀ m k u, ¬ s.holdsUndo m k u) → t.merge = s.merge)) ∧
     (∀ (h : i < 16) (h' : s.probe.store.toNat < 4), r = 2 → n = 9 → exec .probeWriteStore s = .next { s with
       lanes := modAt s.lanes ⟨i, h⟩ fun n => { n with priority := ⟨s.probe.store.toNat, h'⟩ }
       probe := { s.probe with busy := false } }) ∧
     ((r = 1 → n = 15 → ∀ h : i < 24, (s.ctxs[i]).state ≠ .opened) →
       (r = 2 → n = 9 → i < 16 → 4 ≤ s.probe.store.toNat) →
       exec .probeWriteStore s = .next { s with probe := { s.probe with busy := false, err := true } }))

/-- R166, R168 (Table 10-9): the answer to a read transaction: every word of the table, and 0 with the error flag at an undefined
address. The monitor sets and the validated copy are read as bytes of their layouts (`LiveBlockAndLayout`,
`ValidRecipeInRange`), a cell as its halfword (`MapRowRoundTrip`). The last-use order holds eight entries, as
`TablesStayInRange` says. That the value is sampled in the event of the answer is the model's choice (assumption log 31). -/
def Obligations.ProbeReadAnswered : Prop :=
  ∀ s : State, s.probe.busy = true → s.probe.isWrite = false →
    let r := s.probe.region.toNat
    let i := s.probe.index.toNat
    let n := s.probe.word.toNat
    ∃ (w : Word) (bad : Bool),
      let is (v : Word) : Prop := bad = false ∧ w = v
      let num (v : Nat) : Prop := is (BitVec.ofNat 32 v)
      let int (v : Int) : Prop := is (BitVec.ofInt 32 v)
      let flag (b : Bool) : Prop := is (if b = true then 1 else 0)
      let bytes (bs : List Byte) (o : Nat) : Prop :=
        bad = false ∧ ∀ j < 4, w.extractLsb' (8 * j) 8 = bs.getD (o + j) 0
      exec .probeReadAnswer s =
        .next { s with probe := { s.probe with busy := false, err := s.probe.err || bad, data := w } } ∧
      (∀ h : i < 24, r = 1 →
        let c := s.ctxs[i]
        (n = 0 → num c.state.code) ∧ (n = 1 → num c.lane.val) ∧ (n = 2 → flag c.bound) ∧ (n = 3 → num c.lot.val) ∧
        (n = 4 → num c.recipeNumber) ∧ (n = 5 → num c.entry.val) ∧ (n = 6 → is c.tag) ∧ (n = 7 → is c.lastTouch) ∧
        (n = 8 → flag c.firstTouch.isSome) ∧ (n = 9 → is (c.firstTouch.getD 0)) ∧ (n = 10 → num c.tested) ∧
        (n = 11 → int c.good) ∧ (n = 12 → num c.touches) ∧ (n = 13 → num c.retests) ∧ (n = 14 → num c.idleCount) ∧
        (n = 15 → num c.idleLimit) ∧ (n = 16 → flag c.inMerge) ∧ (n = 17 → num c.cause.code) ∧
        (n = 18 → is c.generation) ∧ (n = 19 → c.winRow = none → is 0xFFFFFFFF) ∧
        (∀ y : RowId, n = 19 → c.winRow = some y → num y.val) ∧ (n = 20 → flag c.dirty) ∧
        (∀ j < 4, (n = 21 + j → bytes c.active.bytes (4 * j)) ∧ (n = 25 + j → bytes c.latched.bytes (4 * j))) ∧
        (∀ b : BinCode, n = 32 + b.val → int c.bins[b]) ∧
        (∀ p : SiteId, (n = 96 + p.val → num c.siteTested[p]) ∧ (n = 112 + p.val → num c.sitePass[p]) ∧
          (n = 128 + p.val → num c.run[p])) ∧
        (∀ y : RowId, n = 144 + y.val / 32 → bad = false ∧ w.getLsbD (y.val % 32) = c.rowsDone[y]) ∧
        ∀ j < 256, n = 160 + j → bad = false ∧
          w.toNat % 65536 = (c.cells.getD (2 * j) ⟨.outside, 0, 0, 0⟩).halfword ∧
          w.toNat / 65536 = (c.cells.getD (2 * j + 1) ⟨.outside, 0, 0, 0⟩).halfword) ∧
      (∀ h : i < 16, r = 2 →
        let l := s.lanes[i]
        (n = 0 → num l.state.code) ∧ (n = 1 → flag l.hold) ∧ (n = 2 → flag (decide (l.expected = .b))) ∧
        (l.inService = none → 3 ≤ n → n ≤ 5 → num 0) ∧
        (∀ v, l.inService = some v → (n = 3 → num (if v.half = .a then 1 else 2)) ∧ (n = 4 → num v.next) ∧
          (n = 5 → num v.count)) ∧
        (n = 6 → flag l.look.isSome) ∧ (n = 7 → l.ctx = none → is 0xFFFFFFFF) ∧
        (∀ k : CtxId, n = 7 → l.ctx = some k → num k.val) ∧ (n = 8 → num l.cause.code) ∧ (n = 9 → num l.priority.val) ∧
        (n = 10 → num l.capacity) ∧ (n = 11 → num l.halfA) ∧ (n = 12 → num l.halfB)) ∧
      (∀ h : i < 8, r = 3 →
        let c := s.cache[i]
        (n = 0 → num c.state.code) ∧ (n = 1 → num c.number) ∧ (n = 2 → num c.pins) ∧ (n = 3 → flag c.stale) ∧
        (n = 4 → flag c.dirty) ∧ (n = 5 → flag c.writing.isSome) ∧ (n = 6 → num (markCode c.mark)) ∧
        (∀ l : LaneId, n = 7 → bad = false ∧ w.getLsbD l.val = c.waiters[l] ∧ w.toNat < 2 ^ 16) ∧
        (n = 8 → int c.trendE) ∧ (n = 9 → num c.trendCnt) ∧ (n = 10 → flag c.deferred) ∧
        ∀ j < 1024, n = 64 + j → bytes c.copy.image (4 * j)) ∧
      (∀ e : EntryId, r = 3 → i = 8 → s.lastUse[n]? = some e → num e.val) ∧
      (∀ h : i < 8, r = 4 →
        let t := s.lots[i]
        (n = 0 → num t.state.code) ∧ (n = 1 → is t.id) ∧ (n = 2 → num t.recipe) ∧ (n = 3 → num t.wafersOpen) ∧
        (n = 4 → num t.wafersAll) ∧ (n = 5 → num t.tested) ∧ (n = 6 → int t.good) ∧ (n = 7 → flag t.lowFlag) ∧
        (n = 8 → num t.floor) ∧ (n = 9 → flag t.assertFlag) ∧ (n = 10 → flag t.holdFlag) ∧
        (n = 11 → num t.endingLane.val) ∧ ∀ b : BinCode, n = 16 + b.val → int t.bins[b]) ∧
      (r = 4 → i = 8 →
        (n = 0 → num s.closeQ.length) ∧ (n = 1 → flag (decide (s.closeUnit ≠ .idle))) ∧
        ∀ j < 32, n = 2 + j →
          (∀ k : CtxId, s.closeQ[j]? = some (.ctx k) → num (k.val + 2 ^ 8 + 2 ^ 12 * s.ctxs[k].cause.code)) ∧
          (∀ i : LotId, s.closeQ[j]? = some (.lot i) → num (i.val + 2 ^ 9)) ∧ (s.closeQ.length ≤ j → num 0)) ∧
      (r = 0 ∨ 4 < r ∨ r = 1 ∧ (24 ≤ i ∨ 29 ≤ n ∧ n < 32 ∨ 416 ≤ n) ∨ r = 2 ∧ (16 ≤ i ∨ 13 ≤ n) ∨
        r = 3 ∧ (8 < i ∨ i = 8 ∧ 8 ≤ n ∧ s.lastUse.length = 8 ∨ i < 8 ∧ (11 ≤ n ∧ n < 64 ∨ 1088 ≤ n)) ∨
        r = 4 ∧ (8 < i ∨ i = 8 ∧ 34 ≤ n ∨ i < 8 ∧ (12 ≤ n ∧ n < 16 ∨ 80 ≤ n)) → bad = true ∧ w = 0)

/-! ### The idle timer -/

/-- R77: a second event moves the idle timer of every OPEN context, in RUNNING alone. `idleDue` is the model's record of an
expiry that IDLE_EXPIRY has not yet taken (assumption log 11). The count that a fault would bring back to the context in merge
moves as the context's own does (R28; assumption log 28). -/
def Obligations.SecondEventMovesTimers : Prop :=
  ∀ s : State,
    (s.engine.run ≠ .running → exec .secondEvent s = .next s) ∧
    (s.engine.run = .running → ∃ t, exec .secondEvent s = .next t ∧
      t = { s with second := 0, ctxs := t.ctxs, merge := t.merge } ∧
      (∀ m k u, s.holdsUndo m k u →
        let c := s.ctxs[k]
        let n : Nat :=
          if c.state ≠ .opened then u.idleCount
          else if c.idleLimit = 0 then min (u.idleCount + 1) 65535
          else if u.idleCount < c.idleLimit then u.idleCount + 1
          else u.idleCount
        t.merge = some { m with undo := some { u with idleCount := n } }) ∧
      ((∀ m k u, ¬ s.holdsUndo m k u) → t.merge = s.merge) ∧
      ∀ k : CtxId,
        let c := s.ctxs[k]
        (c.state ≠ .opened → t.ctxs[k] = c) ∧
        (c.state = .opened → c.idleLimit = 0 → c.idleCount < 65535 →
          t.ctxs[k] = { c with idleCount := c.idleCount + 1 }) ∧
        (c.state = .opened → c.idleLimit = 0 → 65535 ≤ c.idleCount → t.ctxs[k] = { c with idleCount := 65535 }) ∧
        (c.state = .opened → c.idleCount + 1 < c.idleLimit → t.ctxs[k] = { c with idleCount := c.idleCount + 1 }) ∧
        (c.state = .opened → c.idleCount + 1 = c.idleLimit →
          t.ctxs[k] = { c with idleCount := c.idleLimit, idleDue := true }) ∧
        (c.state = .opened → c.idleLimit ≠ 0 → c.idleCount = c.idleLimit → c.active.idle = false →
          t.ctxs[k] = { c with idleDue := true }) ∧
        (c.state = .opened → c.idleLimit ≠ 0 → c.idleCount = c.idleLimit → c.active.idle = true → t.ctxs[k] = c))

/-- R78, R79, R80: an expiry is discarded in a merge; with autoclose it closes the context with cause IDLE; otherwise it
asserts a released IDLE in both sets, which acts by the masks (Table 4-3). `idleDue` is the model's record of the expiry
(assumption log 11), and that the live block rewrite takes its contents before the close is served is assumption log 33. -/
def Obligations.IdleExpiryActs : Prop :=
  ∀ (k : CtxId) (s : State), s.engine.run = .running → s.ctxs[k].state = .opened → s.ctxs[k].idleDue = true →
    let r := s.recipeFor k
    let l := s.ctxs[k].lane
    (s.ctxs[k].inMerge = true →
      exec (.idleExpiry k) s = .next { s with ctxs := modAt s.ctxs k fun c => { c with idleDue := false } }) ∧
    (s.ctxs[k].inMerge = false → r.autoclose = true → ∃ t, exec (.idleExpiry k) s = .next t ∧
      let u : State := { s with
        ctxs := modAt s.ctxs k fun c => { c with
          state := .closing, cause := .idle, bound := false, idleDue := false
          latched := { c.latched with idle := true } }
        lanes := modAt s.lanes l fun n => { n with ctx := none } }
      t = { (State.serve { u.rewrite k .nothing with closeQ := s.closeQ ++ [.ctx k] }) with messages := t.messages }) ∧
    (s.ctxs[k].inMerge = false → r.autoclose = false → s.ctxs[k].active.idle = true →
      exec (.idleExpiry k) s = .next { s with ctxs := modAt s.ctxs k fun c => { c with idleDue := false } }) ∧
    (s.ctxs[k].inMerge = false → r.autoclose = false → s.ctxs[k].active.idle = false →
      ∃ t, exec (.idleExpiry k) s = .next t ∧
      let on := r.assertMask.idle
      let u : State := { s with
        ctxs := modAt s.ctxs k fun c => { c with
          idleDue := false
          active := { c.active with idle := true }
          latched := { c.latched with idle := true } }
        notices := if on = true then modAt s.notices l fun n => { n with alarm := true } else s.notices
        lanes := if on = true ∧ r.holdMask.idle = true then modAt s.lanes l fun n => { n with hold := true }
          else s.lanes }
      t = { (if on = true then u.rewrite k .nothing else u) with messages := t.messages })

/-! ### Looks and slot reads -/

/-- R128, R127: when the read at a position has been acted on, the pass issues its next read, the first position after it in
the order of lanes, contexts and lot entries that wants one; outside RUNNING it stops; at its end it completes, or, with
the rescan flag set, starts again at once. That a lane whose RETIRE waits to be carried out is passed by is the model's
choice (assumption log 12). -/
def Obligations.ScanPassGoesOn : Prop :=
  ∀ (p : PassPos) (s : State),
    let wants (q : PassPos) : Prop := match q with
      | .lane l => s.lanes[l].state = .idle ∧ s.lanes[l].inService = none ∧ s.lanes[l].look = none ∧
        s.command.progress ≠ .retirePending l
      | .ctx k => s.ctxs[k].state = .closed
      | .lot i => s.lots[i].state = .posted
    (s.engine.run ≠ .running → s.passNext p = { s with scan := { s.scan with pass := none } }) ∧
    (∀ q, s.engine.run = .running → p.rank < q.rank → wants q →
      (∀ q', p.rank < q'.rank → q'.rank < q.rank → ¬ wants q') →
      s.passNext p = { s with
        scan := { s.scan with pass := some q }
        lanes := match q with
          | .lane l => modAt s.lanes l fun n =>
            { n with look := some ⟨n.expected, n.halfAddr n.expected, true, false, .reading⟩ }
          | _ => s.lanes }) ∧
    (s.engine.run = .running → (∀ q, p.rank < q.rank → ¬ wants q) → s.scan.rescan = false →
      s.passNext p = { s with scan := { s.scan with pass := none } }) ∧
    (s.engine.run = .running → (∀ q, p.rank < q.rank → ¬ wants q) → s.scan.rescan = true →
      exec .scanNow { s with scan := { s.scan with pass := none, rescan := false } } = .next (s.passNext p))

/-- R129, R130 (Table 7-4): what a look makes of the hand-over word it reads, and the RETURNED word, EMPTY or FAULTED with
count 0, with which it answers an unusable count. A look made by a scan pass hands on to the pass where it ends. That a lane
whose RETIRE waits gets no chained look is the model's choice (assumption log 12). -/
def Obligations.LookActsAndAnswers : Prop :=
  (∀ (l : LaneId) (bad : Bool) (k : Look) (s : State), s.engine.run = .running ∨ s.engine.run = .draining →
     s.lanes[l].look = some k → k.phase = .reading →
     let code := (Mem.read s.mem k.addr).toNat
     let count := (Mem.read s.mem (k.addr + 2)).toNat + 256 * (Mem.read s.mem (k.addr + 3)).toNat
     let passed (u t : State) : Prop :=
       t = { (if k.fromPass = true then u.passNext (.lane l) else u) with messages := t.messages }
     let quiet : State := { s with lanes := modAt s.lanes l fun n => { n with look := none } }
     let fault (c : LaneFault) : State := { s with
       lanes := modAt s.lanes l fun n => { n with look := none, state := .faulted, cause := c }
       notices := modAt s.notices l fun n => { n with fault := true } }
     ∃ t, exec (.look l bad) s = .next t ∧
       (k.void = true → passed quiet t) ∧
       (k.void = false → bad = true → passed (fault .memLane) t) ∧
       (k.void = false → bad = false → code = 0 ∨ code = 2 → passed quiet t) ∧
       (k.void = false → bad = false → 3 ≤ code → passed (fault .badHandover) t) ∧
       (k.void = false → bad = false → code = 1 → count = 0 → t = { s with
         lanes := modAt s.lanes l fun n => { n with look := some { k with phase := .answerEmpty } } }) ∧
       (k.void = false → bad = false → code = 1 → s.lanes[l].capacity < count → t = { s with
         lanes := modAt s.lanes l fun n => { n with look := some { k with phase := .answerBadCount } } }) ∧
       (k.void = false → bad = false → code = 1 → 0 < count → count ≤ s.lanes[l].capacity → passed { s with
         lanes := modAt s.lanes l fun n =>
           { n with look := none, state := .ready, inService := some ⟨k.half, 0, count⟩ } } t)) ∧
  (∀ (l : LaneId) (k : Look) (s : State), s.engine.run = .running ∨ s.engine.run = .draining →
     s.lanes[l].look = some k → k.phase ≠ .reading →
     ∃ (t u : State), exec (.lookReturnWritten l) s = .next t ∧
       t = { (if k.fromPass = true then u.passNext (.lane l) else u) with messages := t.messages } ∧
       s.stores t k.addr [2, if k.phase = .answerEmpty then 2 else 4, 0, 0] ∧
       (k.void = true → u = { s with
         mem := t.mem, past := t.past
         lanes := modAt s.lanes l fun n => { n with look := none } }) ∧
       (k.void = false → k.phase = .answerEmpty → u = { s with
         mem := t.mem, past := t.past
         notices := modAt s.notices l fun n => { n with handback := true }
         lanes := modAt s.lanes l fun n => { n with
           expected := n.expected.other
           look := if s.engine.run = .running ∧ s.command.progress ≠ .retirePending l then
             some ⟨n.expected.other, n.halfAddr n.expected.other, false, false, .reading⟩ else none } }) ∧
       (k.void = false → k.phase = .answerBadCount → u = { s with
         mem := t.mem, past := t.past
         notices := modAt s.notices l fun n => { n with fault := true }
         lanes := modAt s.lanes l fun n => { n with look := none, state := .faulted, cause := .badCount } }))

/-- R121, R10: a pass's read of a slot of a CLOSED context or POSTED lot entry frees it when the host has written COLLECTED
(state code 3), and the freed context wakes the lanes in WAIT_CONTEXT; any other word leaves it. The pass then goes on. -/
def Obligations.SlotReadFrees : Prop :=
  ∀ s : State, s.engine.run = .running ∨ s.engine.run = .draining →
    (∀ k : CtxId, s.scan.pass = some (.ctx k) →
      let collected : Prop := Mem.read s.mem (s.engine.config.slotBase + k.val * 1024) = 3
      (¬ collected → exec (.summarySlotRead k .returned) s = .next (s.passNext (.ctx k))) ∧
      (collected → ∃ u : State, exec (.summarySlotRead k .returned) s = .next (u.passNext (.ctx k)) ∧
        u = { s with ctxs := modAt s.ctxs k fun c => { c with state := .free }, lanes := u.lanes } ∧
        ∀ l : LaneId, u.lanes[l] =
          if s.lanes[l].state = .waitContext then { s.lanes[l] with state := .ready } else s.lanes[l])) ∧
    ∀ i : LotId, s.scan.pass = some (.lot i) →
      let collected : Prop := Mem.read s.mem (s.engine.config.lotBase + i.val * 512) = 3
      (¬ collected → exec (.lotSlotRead i .returned) s = .next (s.passNext (.lot i))) ∧
      (collected → exec (.lotSlotRead i .returned) s =
        .next (State.passNext { s with lots := modAt s.lots i fun t => { t with state := .free } } (.lot i)))

/-- R151 (Table 8-4): an uncorrectable error of a slot read, a row fetch or a recipe load faults the engine with the code of
the read: ENGINE is set, the blocks keep what they hold, and of the writes in flight the bytes that had landed are
stored. That the command lists them is the model's (assumption log 7). R28: the record in merge receives no disposition, not
even one whose byte is being written. Of an unfinished record that had been accepted, the touchdown number is not recorded and the idle count not restarted; that a number already recorded is brought back, and
the cells, the counts and the sets stay, is assumption log 28. -/
def Obligations.UncorrectableReadFaults : Prop :=
  ∀ (landed : List Host.Cell) (s : State) (c : Instr) (code : FaultCode),
    s.engine.run = .running ∨ s.engine.run = .draining →
    ((∃ k, c = .summarySlotRead k (.uncorrectable landed) ∧ s.scan.pass = some (.ctx k) ∧ code = .memSummary) ∨
      (∃ i, c = .lotSlotRead i (.uncorrectable landed) ∧ s.scan.pass = some (.lot i) ∧ code = .memSummary) ∨
      (∃ m y k, c = .rowFetchDone (.uncorrectable landed) ∧ s.merge = some m ∧ m.phase = .rowFetch y ∧ m.ctx = some k ∧
        code = .memMap) ∨
      ∃ e early since, c = .recipeLoadDone e early (.uncorrectable landed) ∧ s.cache[e].load = .reading since ∧
        code = .memRecipe) →
    ∃ t, exec c s = .next t ∧
      t = { s with
        mem := t.mem
        ctxs := t.ctxs
        engine := { s.engine with run := .faulted, fault := code, stopPending := false, warmPending := false }
        flags := { s.flags with engine := true }
        messages := t.messages } ∧
      s.stopsWrites t s.undisposed.lands landed ∧
      (∀ m code, s.merge = some m → m.phase = .disposition code → s.undisposed = { s with merge := none }) ∧
      ((∀ m code, s.merge = some m → m.phase ≠ .disposition code) → s.undisposed = s) ∧
      (∀ m k u, s.holdsUndo m k u → t.ctxs = modAt s.ctxs k fun c =>
        { c with lastTouch := u.lastTouch, firstTouch := u.firstTouch, idleCount := u.idleCount }) ∧
      ((∀ m k u, ¬ s.holdsUndo m k u) → t.ctxs = s.ctxs)

/-! ### Grants and records -/

/-- R131, R13: the grant goes to the candidate of highest priority, the lowest-numbered among equals: a READY lane, not held,
with a half in service, while RUNNING (and no RETIRE of it waiting: assumption log 12). Its next record goes into merge with
its bound context. -/
def Obligations.GrantChoosesCandidate : Prop :=
  ∀ (s : State) (l : LaneId) (v : InService), s.merge = none → s.engine.run = .running →
    let candidate (l : LaneId) : Prop := s.lanes[l].state = .ready ∧ s.lanes[l].hold = false ∧
      s.lanes[l].inService ≠ none ∧ s.command.progress ≠ .retirePending l
    (candidate l → s.lanes[l].inService = some v →
      (∀ l', candidate l' → s.lanes[l'].priority ≤ s.lanes[l].priority ∧
        (s.lanes[l'].priority = s.lanes[l].priority → l ≤ l')) →
      exec .grant s = .next { s with
        merge := some ⟨l, v.half, v.next, [], [], s.lanes[l].ctx, .reading, none⟩
        ctxs := match s.lanes[l].ctx with
          | some k => modAt s.ctxs k fun c => { c with inMerge := true }
          | none => s.ctxs }) ∧
    ((∀ l', ¬ candidate l') → exec .grant s = .next s)

/-- R25, R29, R30, R133: a NOP is ACCEPTED, a record of no known kind is refused BAD_KIND, and a TOUCHDOWN is refused by the
first check of Table 2-1 that fails, with no state changed; an uncorrectable error of the record read ends the half, whose
RETURNED FAULTED word, counting the records before it, is written and its lane faulted. The Merge Engine holds the record
until that word is written (assumption log 16). -/
def Obligations.RecordsRefused : Prop :=
  (∀ (s t : State) (m : Merge) (bs : List Byte), s.reads m bs →
     (recKind bs = 6 → ∃ t, exec .nop s = .next t ∧ s.disposes t m bs 0x01) ∧
     (recKind bs = 0 ∨ 7 ≤ recKind bs → ∃ t, exec .badKind s = .next t ∧ s.disposes t m bs 0x1E) ∧
     exec .recordReadError s = .next { s with merge := some { m with phase := .faultedReturn } } ∧
     (t = { s with merge := some { m with phase := .faultedReturn } } → s.engine.run = .running →
       ∃ u, exec .halfFaultedReturnWritten t = .next u ∧
         u = { s with
           mem := u.mem, past := u.past
           lanes := modAt s.lanes m.lane fun n => { n with inService := none, state := .faulted, cause := .memLane }
           notices := modAt s.notices m.lane fun n => { n with fault := true }
           ctxs := match m.ctx with
             | some k => modAt s.ctxs k fun c => { c with inMerge := false }
             | none => s.ctxs
           merge := none
           messages := u.messages } ∧
         s.stores u ((s.lanes[m.lane]).halfAddr m.half)
           [2, 4, BitVec.ofNat 8 m.index, BitVec.ofNat 8 (m.index / 256)])) ∧
  (∀ (s : State) (m : Merge) (bs : List Byte), s.reads m bs → recKind bs = 2 →
     (m.ctx = none → ∃ t, exec .touchdown s = .next t ∧ s.disposes t m bs 0x10) ∧
     ∀ k, m.ctx = some k →
       (recTag bs ≠ s.ctxs[k].tag → ∃ t, exec .touchdown s = .next t ∧ s.disposes t m bs 0x11) ∧
       (recTag bs = s.ctxs[k].tag → tdNumber bs ≤ s.ctxs[k].lastTouch →
         ∃ t, exec .touchdown s = .next t ∧ s.disposes t m bs 0x12) ∧
       (recTag bs = s.ctxs[k].tag → s.ctxs[k].lastTouch < tdNumber bs →
         (∀ i : SiteId, tdMask bs i = true → (s.recipeFor k).siteCount ≤ i.val) →
         ∃ t, exec .touchdown s = .next t ∧ s.disposes t m bs 0x14))

/-- R108, R8: a CLOSE closes the lane's bound context with cause RECORD when its tag is the wafer's, and its ACCEPTED waits
for the live block rewrite; otherwise it is refused. Clearing `idleDue` is the model's choice (assumption log 11), and so is
that the rewrite takes its contents before the close is served (assumption log 33). -/
def Obligations.CloseRecord : Prop :=
  ∀ (s : State) (m : Merge) (bs : List Byte), s.reads m bs → recKind bs = 4 →
    (m.ctx = none → ∃ t, exec .close s = .next t ∧ s.disposes t m bs 0x10) ∧
    (∀ k, m.ctx = some k → recTag bs ≠ s.ctxs[k].tag → ∃ t, exec .close s = .next t ∧ s.disposes t m bs 0x11) ∧
    (∀ k, m.ctx = some k → recTag bs = s.ctxs[k].tag → ∃ t, exec .close s = .next t ∧
      let u : State := { s with
        merge := some { m with bytes := bs, phase := .awaitLive none 0x01 }
        ctxs := modAt s.ctxs k fun c => { c with state := .closing, cause := .record, bound := false, idleDue := false }
        lanes := modAt s.lanes s.ctxs[k].lane fun n => { n with ctx := none } }
      t = { (State.serve { u.rewrite k .merge with closeQ := s.closeQ ++ [.ctx k] }) with messages := t.messages })

/-- R109, R114, R120: a LOT_END ends the ACTIVE entry of its lot when no wafer of it is open, putting it on the close queue,
and is refused otherwise; the writes of a lot entry's item are its summary, then POSTED, with which the entry is POSTED,
CLOSE is set on the ending lane and the next item begins. R172: the layout of the lot summary, bytes 64..351 of the slot. -/
def Obligations.LotEndAndItem : Prop :=
  (∀ (s : State) (m : Merge) (bs : List Byte), s.reads m bs → recKind bs = 5 →
     let named (i : LotId) : Prop := s.lots[i].state = .active ∧ s.lots[i].id = endLot bs
     ((∀ i, ¬ named i) → ∃ t, exec .lotEnd s = .next t ∧ s.disposes t m bs 0x1C) ∧
     ∀ i, named i → (∀ i' < i, ¬ named i') →
       (0 < s.lots[i].wafersOpen → ∃ t, exec .lotEnd s = .next t ∧ s.disposes t m bs 0x1D) ∧
       (s.lots[i].wafersOpen = 0 → ∃ t, exec .lotEnd s = .next t ∧
         t = { (State.serve { s with
             lots := modAt s.lots i fun t => { t with state := .ending, endingLane := m.lane }
             closeQ := s.closeQ ++ [.lot i] }) with
           merge := some { m with bytes := bs, phase := .disposition 0x01 }
           messages := t.messages })) ∧
  (∀ (s : State) (i : LotId) (q : List CloseItem), s.engine.run = .running → s.closeQ = .lot i :: q →
     let slot := s.engine.config.lotBase + i.val * 512
     (s.closeUnit = .lotSummary → ∃ t, exec .lotSummaryWritten s = .next t ∧
       t = { s with mem := t.mem, past := t.past, closeUnit := .lotPosting } ∧
       s.stores t (slot + 64) s.lots[i].summary) ∧
     (s.closeUnit = .lotPosting → ∃ t, exec .lotPostedWritten s = .next t ∧
       s.stores t slot [2, 0, 0, 0] ∧
       t = { (State.serve { s with
           mem := t.mem, past := t.past
           lots := modAt s.lots i fun t => { t with state := .posted }
           notices := modAt s.notices s.lots[i].endingLane fun n => { n with close := true }
           closeQ := q
           closeUnit := .idle }) with
         messages := t.messages })) ∧
  ∀ t : Lot,
    let bytes := t.summary
    let w (o : Nat) : Nat := get32 (listSrc bytes) (o - 64)
    bytes.length = 288 ∧ w 64 = t.id.toNat ∧
    w 68 = t.recipe % 2 ^ 16 + 2 ^ 16 * (t.wafersAll % 2 ^ 8) + 2 ^ 24 * (if t.lowFlag = true then 1 else 0) ∧
    w 72 = t.tested % 2 ^ 32 ∧ w 76 = (BitVec.ofInt 32 t.good).toNat ∧
    w 80 % 2 ^ 16 = (BitVec.ofInt 16 (lotYield t)).toNat ∧
    ∀ b : BinCode, w (96 + 4 * b.val) = (BitVec.ofInt 32 t.bins[b]).toNat

/-- R31, R40 to R43, R20: a TOUCHDOWN that passes its checks takes its sites in turn (`runSites`, of which `SitesInTurn`
speaks). It may stop at a site whose row needs a writeback or a fetch, with the context and the dispositions as the sites
before left them. With every site resolved and none merged it is refused OFF_MAP and nothing has changed; otherwise it takes
its touchdown number, restarts the idle count, and is evaluated, and ends PARTIAL or ACCEPTED by whether some site was
OFF_MAP. Clearing `idleDue` is the model's choice (assumption log 11); the number is recorded before the writes that follow,
and what R28 brings back is kept (assumption log 28). -/
def Obligations.TouchdownMerges : Prop :=
  ∀ (s : State) (m : Merge) (bs : List Byte) (k : CtxId), s.reads m bs → recKind bs = 2 → m.ctx = some k → m.disps = [] →
    recTag bs = s.ctxs[k].tag → s.ctxs[k].lastTouch < tdNumber bs →
    (∃ i : SiteId, tdMask bs i = true ∧ i.val < (s.recipeFor k).siteCount) →
    ∃ t, exec .touchdown s = .next t ∧ s.touches t { m with bytes := bs } k

/-- R31, R32, R20: the sites of a TOUCHDOWN are taken in ascending order. An absent site and one off the map change
nothing. A site whose row is in the window is merged; one whose row is not stops the record for the row's fetch, or for the
writeback of a dirty window before it; a row not yet materialized is synthesized into a clean window. -/
def Obligations.SitesInTurn : Prop :=
  ∀ (r : Recipe) (bs : List Byte) (i : SiteId) (is : List SiteId) (c : Ctx) (ds : List SiteDisp),
    (runSites r bs [] c ds = .done c ds) ∧
    (tdMask bs i = false ∨ r.siteCount ≤ i.val →
      runSites r bs (i :: is) c ds = runSites r bs is c (ds ++ [.absent])) ∧
    (tdMask bs i = true → i.val < r.siteCount →
      let x := tdX bs + (r.offsets.getD i.val (0, 0)).1
      let y := tdY bs + (r.offsets.getD i.val (0, 0)).2
      let merged (c' : Ctx) (column : Nat) : SitesEnd :=
        runSites r bs is (mergeSite r bs i column c') (ds ++ [mergedDisp r bs i])
      (onMap r x y = none → runSites r bs (i :: is) c ds = runSites r bs is c (ds ++ [.offMap])) ∧
      ∀ column row, onMap r x y = some (column, row) →
        (c.winRow = some row → runSites r bs (i :: is) c ds = merged c column) ∧
        (∀ w, c.winRow = some w → w ≠ row → c.dirty = true →
          runSites r bs (i :: is) c ds = .writeback c ds row) ∧
        (c.winRow ≠ some row → c.winRow = none ∨ c.dirty = false → c.rowsDone[row] = true →
          runSites r bs (i :: is) c ds = .fetch { c with winRow := none } ds row) ∧
        (c.winRow ≠ some row → c.winRow = none ∨ c.dirty = false → c.rowsDone[row] = false →
          runSites r bs (i :: is) c ds =
            merged { c with winRow := some row, dirty := true, cells := synthRow r row } column))

/-- R32, R16, R33: a die is on the map when its column and row lie in the geometry and in the extent of its row; the fold gives
the code of the first range, in ascending order, that holds the soft bin, and the stray code where none does, and the
disposition of the site says which. -/
def Obligations.DieAndFold : Prop :=
  (∀ (r : Recipe) (x y : Int), r.rows ≤ 512 →
     (∀ column row, onMap r x y = some (column, row) ↔
       0 ≤ x ∧ x < r.cols ∧ 0 ≤ y ∧ y < r.rows ∧ x = column ∧ y = (row.val : Int) ∧
       ∃ first last, r.extents[row.val]? = some (some (first, last)) ∧ first ≤ column ∧ column ≤ last)) ∧
  (∀ (r : Recipe) (bs : List Byte) (i : SiteId),
     (∀ (f : FoldRange) (before after : List FoldRange), r.folds = before ++ f :: after →
       f.lo ≤ tdSoft bs i → tdSoft bs i ≤ f.hi → (∀ g ∈ before, tdSoft bs i < g.lo ∨ g.hi < tdSoft bs i) →
       foldBin r (tdSoft bs i) = (f.code, true) ∧ mergedDisp r bs i = .merged) ∧
     ((∀ g ∈ r.folds, tdSoft bs i < g.lo ∨ g.hi < tdSoft bs i) →
       foldBin r (tdSoft bs i) = (r.stray, false) ∧ mergedDisp r bs i = .mergedStray))

/-- R33 to R38: what one merged site does to the counts, the site statistics and its cell, by the cell's state. Where the
cell is EMPTY it takes the folded code; where BINNED, the retest policy decides whether the code stands; where ADJUSTED, the
code stays. Touches saturate at 3; the counts of the site saturate together. -/
def Obligations.SiteMerged : Prop :=
  ∀ (r : Recipe) (bs : List Byte) (i : SiteId) (x : Nat) (c : Ctx), x < c.cells.length →
    let code := (foldBin r (tdSoft bs i)).1
    let pass (b : BinCode) : Bool := (r.bins[b]).pass
    let cell := c.cellAt x
    let touched : MapCell := { cell with touches := if cell.touches = 3 then 3 else cell.touches + 1 }
    let counted : Ctx := { c with
      siteTested := if c.siteTested[i] < 16777215 then modAt c.siteTested i (· + 1) else c.siteTested
      sitePass := if c.siteTested[i] < 16777215 ∧ pass code = true then modAt c.sitePass i (· + 1) else c.sitePass
      run := modAt c.run i fun n => if pass code = true then 0 else min (n + 1) 255
      touches := min (c.touches + 1) 4294967295
      dirty := true }
    let again : Ctx := { counted with retests := min (c.retests + 1) 4294967295 }
    let keeps : Prop := match r.policy with
      | .last => cell.code = code
      | .best => cell.code = code ∨ (r.bins[cell.code]).rank < (r.bins[code]).rank
      | .passSticky => cell.code = code ∨ pass cell.code = true
    let t := mergeSite r bs i x c
    (cell.state = .empty → t = { counted with
      bins := modAt c.bins code (· + 1)
      tested := c.tested + 1
      good := c.good + if pass code = true then 1 else 0
      cells := c.cells.set x { touched with state := .binned, code := code, site := i } }) ∧
    (cell.state = .binned → keeps → t = { again with cells := c.cells.set x touched }) ∧
    (cell.state = .binned → ¬ keeps → t = { again with
      bins := modAt (modAt c.bins cell.code (· - 1)) code (· + 1)
      good := c.good - (if pass cell.code = true then 1 else 0) + if pass code = true then 1 else 0
      cells := c.cells.set x { touched with code := code, site := i } }) ∧
    (cell.state = .adjusted → t = { again with cells := c.cells.set x touched })

/-- R44 to R46 (Table 2-3), R20: the refusals of an ADJUST; one that passes brings its row into the window, by synthesis or,
stopping, by a writeback or a fetch, and then the cell becomes ADJUSTED with the code given, the counts follow the code, the
idle count restarts, and the record is evaluated. Clearing `idleDue` is the model's choice (assumption log 11); what R28
brings back is kept (assumption log 28). -/
def Obligations.AdjustRecord : Prop :=
  ∀ (s : State) (m : Merge) (bs : List Byte), s.reads m bs → recKind bs = 3 →
    (m.ctx = none → ∃ t, exec .adjust s = .next t ∧ s.disposes t m bs 0x10) ∧
    ∀ k, m.ctx = some k →
      let r := s.recipeFor k
      let c := s.ctxs[k]
      (recTag bs ≠ c.tag → ∃ t, exec .adjust s = .next t ∧ s.disposes t m bs 0x11) ∧
      (recTag bs = c.tag → onMap r (adjX bs) (adjY bs) = none → ∃ t, exec .adjust s = .next t ∧ s.disposes t m bs 0x13) ∧
      (recTag bs = c.tag → onMap r (adjX bs) (adjY bs) ≠ none → 64 ≤ adjCode bs →
        ∃ t, exec .adjust s = .next t ∧ s.disposes t m bs 0x15) ∧
      ∀ (x : Nat) (y : RowId) (code : BinCode), recTag bs = c.tag → onMap r (adjX bs) (adjY bs) = some (x, y) →
        adjCode bs = code.val → ∃ t, exec .adjust s = .next t ∧ s.adjusts t { m with bytes := bs } k x y code

/-- R26, R27, R134: the writes that end a record: the site disposition word, then the disposition byte. With the byte
written the merge is over, its context is out of merge, and the lane takes its next record or its half's return. -/
def Obligations.RecordDisposed : Prop :=
  ∀ (s : State) (m : Merge) (v : InService), s.engine.run = .running → s.merge = some m →
    s.lanes[m.lane].inService = some v →
    let a := s.lanes[m.lane].recordAddr m.half m.index
    (∀ word code, m.phase = .siteWord word code → ∃ t, exec .siteWordWritten s = .next t ∧
      t = { s with mem := t.mem, past := t.past, merge := some { m with phase := .disposition code } } ∧
      s.stores t (a + 20)
        [word.extractLsb' 0 8, word.extractLsb' 8 8, word.extractLsb' 16 8, word.extractLsb' 24 8]) ∧
    ∀ code, m.phase = .disposition code → ∃ t, exec .dispositionWritten s = .next t ∧
      t = { s with
        mem := t.mem, past := t.past
        merge := none
        ctxs := match m.ctx with
          | some k => modAt s.ctxs k fun c => { c with inMerge := false }
          | none => s.ctxs
        lanes := modAt s.lanes m.lane fun n =>
          if v.next + 1 < v.count then { n with state := .ready, inService := some { v with next := v.next + 1 } }
          else { n with state := .idle, inService := some { v with next := v.next + 1 }, ret := .writing } } ∧
      s.stores t (a + 1) [code]

/-- R20: a window writeback stores the window's row and cleans it, and a row fetch reads a row of the map image into the
window; the record then goes on from where it stopped: a TOUCHDOWN with the site it had reached, an ADJUST with its cell.
Clearing `idleDue` is the model's choice (assumption log 11); the number is recorded before the writes that follow, and what
R28 brings back is kept (assumption log 28). -/
def Obligations.RowOperationsComplete : Prop :=
  (∀ (s : State) (m : Merge) (k : CtxId) (y : RowId), s.engine.run = .running ∨ s.engine.run = .draining →
    s.merge = some m → m.ctx = some k →
    let cols := (s.recipeFor k).cols
    let row (y : RowId) : Nat := s.engine.config.mapBase + k.val * s.engine.config.mapStride + y.val * cols * 2
    let c := s.ctxs[k]
    (∀ w, m.phase = .rowWriteback y → c.winRow = some w → ∃ (u t : State), exec .rowWritebackDone s = .next t ∧
      t.mem = u.mem ∧ t.past = u.past ∧ s.stores u (row w) (rowBytes c.cells) ∧
      u = { s with
        mem := u.mem, past := u.past
        ctxs := modAt s.ctxs k fun c => { c with rowsDone := c.rowsDone.set w true, dirty := false } } ∧
      (u.ctxs[k].rowsDone[y] = true → t = { u with
        ctxs := modAt u.ctxs k fun c => { c with winRow := none }
        merge := some { m with phase := .rowFetch y } }) ∧
      (u.ctxs[k].rowsDone[y] = false → t = { (State.continueMerge { u with
          ctxs := modAt u.ctxs k fun c =>
            { c with winRow := some y, dirty := true, cells := synthRow (s.recipeFor k) y } } m k) with
        messages := t.messages })) ∧
    (m.phase = .rowFetch y → ∃ t, exec (.rowFetchDone .returned) s = .next t ∧
      t = { (State.continueMerge { s with
          ctxs := modAt s.ctxs k fun c =>
            { c with winRow := some y, dirty := false, cells := rowOf (memSrc s.mem (row y)) cols } } m k) with
        messages := t.messages })) ∧
  ∀ (s : State) (m : Merge) (k : CtxId),
    (recKind m.bytes = 2 → s.touches (s.continueMerge m k) m k) ∧
    ∀ (x : Nat) (y : RowId) (code : BinCode), recKind m.bytes ≠ 2 →
      onMap (s.recipeFor k) (adjX m.bytes) (adjY m.bytes) = some (x, y) → adjCode m.bytes = code.val →
      s.adjusts (s.continueMerge m k) m k x y code

/-- R171, R14: the layout of a map row: a cell is the halfword of its code, touches, site and state in bits 0, 6, 8 and 12,
column x lies at byte 2x, and reading the bytes of a row gives the row back. -/
def Obligations.MapRowRoundTrip : Prop :=
  (∀ c : MapCell, c.halfword =
    c.code.val + 2 ^ 6 * c.touches.val + 2 ^ 8 * c.site.val + 2 ^ 12 * c.state.code ∧ c.halfword < 2 ^ 14) ∧
  (∀ (c : MapCell) (w : Nat), w % 2 ^ 14 = c.halfword → MapCell.ofHalfword w = c) ∧
  ∀ cells : List MapCell, (rowBytes cells).length = 2 * cells.length ∧
    rowOf (fun o => (rowBytes cells).getD o 0) cells.length = cells

/-! ### OPEN -/

/-- R104 to R106 (Tables 6-1, 6-2): an OPEN's checks in their order, each with the disposition or the wait it ends in. A wait
leaves the record at the head of its half. Whatever its end, the lane leaves every waiter set it stood in (R104), and that may
wake the lanes in WAIT_RECIPE (R99, `State.openEnds`; this lane among them: assumption log 13). What the copy of an entry that begins to load holds is a free value
(assumption log 6), and `since` is the model's account of the bytes its read may take (assumption log 8). -/
def Obligations.OpenRefusedOrWaits : Prop :=
  ∀ (s : State) (m : Merge) (bs : List Byte), s.reads m bs → recKind bs = 1 →
    let n := openRecipe bs
    let left : Vector CacheEntry 8 :=
      Vector.ofFn fun e => { s.cache[e] with waiters := s.cache[e].waiters.set m.lane false }
    let held (i : LotId) : Prop := (s.lots[i].state = .active ∨ s.lots[i].state = .ending) ∧ s.lots[i].id = openLot bs
    let refused (code : Byte) : Prop := ∃ t, exec .openRecord s = .next t ∧ s.openEnds { s with
      cache := left, merge := some { m with bytes := bs, phase := .disposition code } } t m.lane
    let waits (w : LaneState) (cache : Vector CacheEntry 8) : Prop := ∃ t, exec .openRecord s = .next t ∧ s.openEnds { s with
      merge := none
      cache := cache
      ctxs := match m.ctx with
        | some k => modAt s.ctxs k fun c => { c with inMerge := false }
        | none => s.ctxs
      lanes := modAt s.lanes m.lane fun n => { n with state := w } } t m.lane
    (s.lanes[m.lane].ctx ≠ none → refused 0x16) ∧
    (s.lanes[m.lane].ctx = none → s.engine.config.recipeCount ≤ n → refused 0x17) ∧
    (s.lanes[m.lane].ctx = none → n < s.engine.config.recipeCount →
      (∀ i, held i → (∀ i' < i, ¬ held i') →
        (s.lots[i].state = .ending → refused 0x1D) ∧
        (s.lots[i].state = .active → s.lots[i].recipe ≠ n → refused 0x1B) ∧
        (s.lots[i].state = .active → s.lots[i].recipe = n → s.lots[i].wafersAll = 255 → refused 0x19)) ∧
      ((∀ i, ¬ held i) → (∀ i : LotId, s.lots[i].state ≠ .free) → refused 0x1A) ∧
      ∀ lot, s.lotCheck (openLot bs) n = .ok lot →
        ((∀ k : CtxId, s.ctxs[k].state ≠ .free) → waits .waitContext left) ∧
        ((∃ k : CtxId, s.ctxs[k].state = .free) →
          (s.lookup n m.lane = .refused → refused 0x17) ∧
          (s.lookup n m.lane = .full → waits .waitRecipe left) ∧
          (∀ e, s.lookup n m.lane = .join e → waits .loading
            (modAt left e fun c => { c with waiters := c.waiters.set m.lane true })) ∧
          (∀ e, s.lookup n m.lane = .load e →
            let storing : Bool := decide (s.cache[e].state = .valid) && s.cache[e].dirty
            waits .loading (modAt left e fun c => { c with
              state := .loading
              number := n
              pins := 0
              stale := false
              mark := none
              waiters := (Vector.replicate 16 false).set m.lane true
              copy := Config.discardedCopy c.copy
              dirty := if storing = true then false else c.dirty
              writing := if storing = true then
                some ⟨s.engine.config.recipeTable + c.number * 4096 + 36, c.trendE, c.trendCnt⟩ else c.writing
              load := if storing = true then .afterTrend else .reading s.past.length })) ∧
          ∀ e, s.lookup n m.lane = .ready e →
            s.engine.config.mapStride < s.cache[e].copy.cols * s.cache[e].copy.rows * 2 → refused 0x18))

/-- R91 (Table 5-4), R92: the lookup of a recipe number by a lane: the entry the lane waited on first, then a VALID entry, a
load to join, a refusal mark, and at last a victim, or none. The victim is an unmarked INVALID entry, else the least
recently used VALID one, else the least recently used of the marked, among those not loading, unpinned, without waiters and
with no trend writeback in flight. That a waiter finds its entry also with a flush writeback in flight is the model's choice
(assumption log 34). -/
def Obligations.RecipeLookup : Prop :=
  ∀ (s : State) (n : Nat) (l : LaneId),
    let has (p : CacheEntry → Prop) : Prop := ∃ e : EntryId, s.cache[e].number = n ∧ p s.cache[e]
    let woken : Prop := has fun c => c.waiters[l] = true ∧ c.state = .valid
    let marked : Prop := has fun c => c.waiters[l] = true ∧ c.state = .invalid ∧ c.mark ≠ none
    let ready : Prop := has fun c => c.state = .valid ∧ c.stale = false
    let loading : Prop := has fun c => c.state = .loading ∧ c.stale = false
    let refused : Prop := has fun c => c.state = .invalid ∧ c.mark ≠ none
    let candidate (e : EntryId) : Prop := s.cache[e].state ≠ .loading ∧ s.cache[e].pins = 0 ∧
      (∀ i : LaneId, s.cache[e].waiters[i] = false) ∧ s.cache[e].writing = none
    (woken → ∃ e, s.lookup n l = .ready e ∧ s.cache[e].number = n ∧ s.cache[e].waiters[l] = true ∧
      s.cache[e].state = .valid) ∧
    (¬ woken → marked → s.lookup n l = .refused) ∧
    (¬ woken → ¬ marked → ready → ∃ e, s.lookup n l = .ready e ∧ s.cache[e].number = n ∧ s.cache[e].state = .valid ∧
      s.cache[e].stale = false) ∧
    (¬ woken → ¬ marked → ¬ ready → loading → ∃ e, s.lookup n l = .join e ∧ s.cache[e].number = n ∧
      s.cache[e].state = .loading ∧ s.cache[e].stale = false) ∧
    (¬ woken → ¬ marked → ¬ ready → ¬ loading → refused → s.lookup n l = .refused) ∧
    (¬ woken → ¬ marked → ¬ ready → ¬ loading → ¬ refused →
      (∀ e, candidate e → s.cache[e].state = .invalid → s.cache[e].mark = none →
        (∀ e' < e, ¬ (candidate e' ∧ s.cache[e'].state = .invalid ∧ s.cache[e'].mark = none)) →
        s.lookup n l = .load e) ∧
      (∀ e older newer, (∀ e', ¬ (candidate e' ∧ s.cache[e'].state = .invalid ∧ s.cache[e'].mark = none)) →
        s.lastUse = newer ++ e :: older → candidate e → s.cache[e].state = .valid →
        (∀ e' ∈ older, ¬ (candidate e' ∧ s.cache[e'].state = .valid)) → s.lookup n l = .load e) ∧
      (∀ e older newer, (∀ e', candidate e' → s.cache[e'].state = .invalid ∧ s.cache[e'].mark ≠ none) →
        s.lastUse = newer ++ e :: older → candidate e → (∀ e' ∈ older, ¬ candidate e') → s.lookup n l = .load e) ∧
      ((∀ e, ¬ candidate e) → s.lookup n l = .full))

/-- R107, R7, R97: an accepted OPEN takes the lowest FREE context, pins its recipe, joins its lot or creates its entry, and binds
the lane; then LIVE is written into the lot slot of a new lot and into the context's summary slot, and the live block is
rewritten before ACCEPTED: the rewrite waits first among the slot's jobs until LIVE is written (assumption log 26). The
generation of the slot carries on (R5). The lane leaves every waiter set it stood in (R104, R99). That the window keeps its
cells up to the new geometry is the model's choice (assumption log 15). -/
def Obligations.OpenAccepted : Prop :=
  (∀ (s : State) (m : Merge) (bs : List Byte) (k : CtxId) (e : EntryId) (i : LotId), s.reads m bs →
    recKind bs = 1 → s.lanes[m.lane].ctx = none → openRecipe bs < s.engine.config.recipeCount →
    s.ctxs[k].state = .free → (∀ k' < k, s.ctxs[k'].state ≠ .free) → s.lookup (openRecipe bs) m.lane = .ready e →
    s.cache[e].copy.cols * s.cache[e].copy.rows * 2 ≤ s.engine.config.mapStride →
    let r := s.cache[e].copy
    let held (i : LotId) : Prop := (s.lots[i].state = .active ∨ s.lots[i].state = .ending) ∧ s.lots[i].id = openLot bs
    let left : Vector CacheEntry 8 :=
      Vector.ofFn fun e => { s.cache[e] with waiters := s.cache[e].waiters.set m.lane false }
    let taken (phase : MergePhase) (lots : Vector Lot 8) : Prop := ∃ t, exec .openRecord s = .next t ∧ s.openEnds { s with
      lots := lots
      cache := modAt left e fun c => { c with pins := c.pins + 1 }
      lastUse := e :: s.lastUse.filter (· ≠ e)
      lanes := modAt s.lanes m.lane fun n => { n with ctx := some k }
      ctxs := modAt s.ctxs k fun c => { Ctx.reset with
        state := .opened, lane := m.lane, bound := true, lot := i, recipeNumber := openRecipe bs, entry := e
        tag := recTag bs, idleLimit := r.idleLimit, generation := c.generation, cells := c.cells.take r.cols
        jobs := c.jobs ++ [.rewrite .merge], slotPhase := c.slotPhase, drainWrite := c.drainWrite }
      merge := some { m with bytes := bs, phase := phase } } t m.lane
    (held i → (∀ i' < i, ¬ held i') → s.lots[i].state = .active → s.lots[i].recipe = openRecipe bs →
      s.lots[i].wafersAll ≠ 255 → taken (.slotLive k) (modAt s.lots i fun t =>
        { t with wafersOpen := t.wafersOpen + 1, wafersAll := t.wafersAll + 1 })) ∧
    ((∀ i, ¬ held i) → s.lots[i].state = .free → (∀ i' < i, s.lots[i'].state ≠ .free) →
      taken (.lotLive i k) (modAt s.lots i fun t => { Lot.reset with
        state := .active, id := openLot bs, recipe := openRecipe bs, wafersOpen := 1, wafersAll := 1
        floor := r.lotFloor, assertFlag := r.assertMask.lotFloor, holdFlag := r.holdMask.lotFloor
        endingLane := t.endingLane }))) ∧
  ∀ (s : State) (m : Merge) (k : CtxId), s.engine.run = .running ∨ s.engine.run = .draining → s.merge = some m →
    (∀ i, m.phase = .lotLive i k → ∃ t, exec .handoverLiveWritten s = .next t ∧
      t = { s with mem := t.mem, past := t.past, merge := some { m with phase := .slotLive k } } ∧
      s.stores t (s.engine.config.lotBase + i.val * 512) [1, 0, 0, 0]) ∧
    (m.phase = .slotLive k → ∃ t u, exec .handoverLiveWritten s = .next t ∧
      u = { s with mem := u.mem, past := u.past, merge := some { m with phase := .awaitLive none 0x01 } } ∧
      s.stores u (s.engine.config.slotBase + k.val * 1024) [1, 0, 0, 0] ∧
      (s.ctxs[k].slotPhase = none → u.startsNext t k) ∧ (s.ctxs[k].slotPhase ≠ none → t = u))

/-! ### Writes into the slots, half returns -/

/-- R118, R172 (Table 10-7): a live block rewrite takes its contents when it begins and makes three writes: the generation made
odd, the contents, the generation made even again; then the work that waited for it goes on, and the next write due in the
slot begins. Writes into one slot are made one after the other. The 316 bytes of contents lie as the table gives them, from
the byte after the generation, the two monitor sets in the 16-byte set layout. That the generation field changes with the
even write alone is the model's choice (assumption log 29). -/
def Obligations.LiveBlockAndLayout : Prop :=
  (∀ (k : CtxId) (s : State),
     (∀ why, ∃ t, t = s.rewrite k why ∧ t = { s with ctxs := t.ctxs } ∧ (∀ k' : CtxId, k' ≠ k → t.ctxs[k'] = s.ctxs[k']) ∧
       t.ctxs[k] = { s.ctxs[k] with jobs := s.ctxs[k].jobs ++ [.rewrite why], slotPhase := t.ctxs[k].slotPhase } ∧
       (s.ctxs[k].slotPhase ≠ none → t.ctxs[k].slotPhase = s.ctxs[k].slotPhase) ∧
       (s.ctxs[k].slotPhase = none → s.ctxs[k].jobs = [] → s.slotFree k →
         t.ctxs[k].slotPhase = some (.genOdd s.ctxs[k].liveContents))) ∧
     (s.engine.run = .running ∨ s.engine.run = .draining →
       let a := s.engine.config.slotBase + k.val * 1024
       let word (g : Word) : List Byte :=
         [g.extractLsb' 0 8, g.extractLsb' 8 8, g.extractLsb' 16 8, g.extractLsb' 24 8]
       (∀ bs, s.ctxs[k].slotPhase = some (.genOdd bs) → ∃ t, exec (.liveGenOddWritten k) s = .next t ∧
         t = { s with
           mem := t.mem, past := t.past
           ctxs := modAt s.ctxs k fun c => { c with slotPhase := some (.contents bs) } } ∧
         s.stores t (a + 64) (word (s.ctxs[k].generation + 1))) ∧
       (∀ bs, s.ctxs[k].slotPhase = some (.contents bs) → ∃ t, exec (.liveContentsWritten k) s = .next t ∧
         t = { s with
           mem := t.mem, past := t.past
           ctxs := modAt s.ctxs k fun c => { c with slotPhase := some .genEven } } ∧
         s.stores t (a + 68) bs) ∧
       ∀ why rest, s.ctxs[k].slotPhase = some .genEven → s.ctxs[k].jobs = .rewrite why :: rest → s.slotFree k →
         ∃ (t u : State), exec (.liveBlockWritten k) s = .next t ∧
           s.stores u (a + 64) (word (s.ctxs[k].generation + 2)) ∧
           u = { s with
             mem := u.mem, past := u.past
             ctxs := modAt s.ctxs k fun c =>
               { c with generation := c.generation + 2, jobs := rest, slotPhase := none } } ∧
           (why = .nothing → u.startsNext t k) ∧
           (∀ m word code, why = .merge → s.merge = some m → m.phase = .awaitLive (some word) code →
             State.startsNext { u with merge := some { m with phase := .siteWord word code } } t k) ∧
           (∀ m code, why = .merge → s.merge = some m → m.phase = .awaitLive none code →
             State.startsNext { u with merge := some { m with phase := .disposition code } } t k) ∧
           (why = .closeStep → t = u.closeTotals k))) ∧
  (∀ c : Ctx,
     let w (o : Nat) : Nat := get32 (listSrc c.liveContents) o
     c.liveContents.length = 316 ∧ w 0 = c.tested % 2 ^ 32 ∧ w 4 = (BitVec.ofInt 32 c.good).toNat ∧
     w 8 = (BitVec.ofInt 16 (waferYield c)).toNat + 65536 * (if c.tested = 0 then 1 else 0) ∧
     w 12 = c.touches % 2 ^ 32 ∧ w 16 = c.retests % 2 ^ 32 ∧ w 20 = c.lastTouch.toNat ∧ w 24 = c.rowCount ∧
     (∀ i < 16, c.liveContents.getD (28 + i) 0 = c.active.bytes.getD i 0 ∧
       c.liveContents.getD (44 + i) 0 = c.latched.bytes.getD i 0) ∧
     ∀ b : BinCode, w (60 + 4 * b.val) = (BitVec.ofInt 32 c.bins[b]).toNat) ∧
  ∀ m : MonitorSet,
    let byte (o : Nat) : Byte := m.bytes.getD o 0
    m.bytes.length = 16 ∧ (∀ b : BinCode, (byte (b.val / 8)).getLsbD (b.val % 8) = m.bins[b]) ∧
    (∀ i : SiteId, (byte (8 + i.val / 8)).getLsbD (i.val % 8) = m.sites[i]) ∧
    (byte 10).getLsbD 0 = m.floor ∧ (byte 10).getLsbD 1 = m.gap ∧ (byte 10).getLsbD 2 = m.idle ∧
    (byte 10).getLsbD 3 = m.trend ∧ (byte 10).toNat < 16 ∧ ∀ o, 11 ≤ o → byte o = 0

/-- R135: the return of a half whose last record is disposed: RETURNED COMPLETE with its count, the live block of the bound
context, then the half leaves service, the expected half toggles, HANDBACK is set, and in RUNNING, with no RETIRE of the
lane waiting and no look in flight, the chained look is issued; the next write due in the slot begins (R118). The exception
for a waiting RETIRE is the model's choice (assumption log 12). -/
def Obligations.HalfReturned : Prop :=
  ∀ (l : LaneId) (v : InService) (s : State), s.engine.run = .running ∨ s.engine.run = .draining →
    let finished (u t : State) : Prop := t = { u with
      notices := modAt u.notices l fun n => { n with handback := true }
      lanes := modAt u.lanes l fun n => { n with
        inService := none
        expected := n.expected.other
        ret := .none
        look := if s.engine.run = .running ∧ s.command.progress ≠ .retirePending l ∧ n.look = none then
          some ⟨n.expected.other, n.halfAddr n.expected.other, false, false, .reading⟩ else n.look }
      messages := t.messages }
    (s.lanes[l].ret = .writing → s.lanes[l].inService = some v →
      ∃ (t u : State), exec (.halfReturnWritten l) s = .next t ∧ u = { s with mem := u.mem, past := u.past } ∧
        s.stores u ((s.lanes[l]).halfAddr v.half)
          [2, 1, BitVec.ofNat 8 v.count, BitVec.ofNat 8 (v.count / 256)] ∧
        (s.lanes[l].ctx = none → finished u t) ∧
        ∀ k, s.lanes[l].ctx = some k →
          t = State.rewrite { u with lanes := modAt u.lanes l fun n => { n with ret := .rewriting } } k (.halfReturn l)) ∧
    ∀ (k : CtxId) (rest : List SlotJob), s.ctxs[k].slotPhase = some .genEven →
      s.ctxs[k].jobs = .rewrite (.halfReturn l) :: rest → s.slotFree k →
      ∃ (t u v : State), exec (.liveBlockWritten k) s = .next t ∧
        s.stores u (s.engine.config.slotBase + k.val * 1024 + 64)
          (leBytes 4 (s.ctxs[k].generation + 2).toNat) ∧
        u = { s with
          mem := u.mem, past := u.past
          ctxs := modAt s.ctxs k fun c => { c with generation := c.generation + 2, jobs := rest, slotPhase := none } } ∧
        u.startsNext v k ∧ finished v t

/-! ### Recipe loads and trend words -/

/-- R94, R93, R99: a load that completes installs its entry or marks it refused; the lanes that waited on it in LOADING return
to READY, and those in WAIT_RECIPE when the entry was refused or had no waiter. Each byte is taken as it stood when it was
read: as it stands now, or as a write since the read was issued replaced it, where the command says so (`early`, the model's
account: assumption log 8). An entry that names itself not valid is refused NOT_VALID first of all (R88). -/
def Obligations.RecipeLoadCompletes : Prop :=
  ∀ (e : EntryId) (early : List Host.Cell) (since : Nat) (s : State), s.engine.run = .running ∨ s.engine.run = .draining →
    s.cache[e].load = .reading since →
    let a := s.engine.config.recipeTable + s.cache[e].number * 4096
    let replaced (c : Host.Cell) : Prop := (a + c.1, c.2) ∈ s.past.drop since
    ∃ (t : State) (src : Nat → Byte), exec (.recipeLoadDone e early .returned) s = .next t ∧
      (∀ o, (∀ c ∈ early, c.1 = o → ¬ replaced c) → src o = Mem.read s.mem (a + o)) ∧
      (∀ before c after, early = before ++ c :: after → replaced c → (∀ d ∈ before, d.1 = c.1 → ¬ replaced d) →
        src c.1 = c.2) ∧
      t = { s with
        cache := modAt s.cache e fun c => match refusalOf src with
          | none => { c with
            state := .valid, copy := recipeOf src, trendE := (recipeOf src).trendE
            trendCnt := (recipeOf src).trendCount, dirty := false, load := .none }
          | some mark => { c with state := .invalid, mark := some mark, load := .none }
        lastUse := e :: s.lastUse.filter (· ≠ e)
        lanes := t.lanes
        past := t.past } ∧
      ((∀ (e' : EntryId) (n : Nat), e' ≠ e → s.cache[e'].load ≠ .reading n) → t.past = []) ∧
      ((∃ (e' : EntryId) (n : Nat), e' ≠ e ∧ s.cache[e'].load = .reading n) → t.past = s.past) ∧
      (∀ l : LaneId, t.lanes[l] =
        if (s.lanes[l].state = .loading ∧ s.cache[e].waiters[l] = true) ∨ (s.lanes[l].state = .waitRecipe ∧
            (refusalOf src ≠ none ∨ ∀ i : LaneId, s.cache[e].waiters[i] = false)) then
          { s.lanes[l] with state := .ready }
        else s.lanes[l]) ∧
      ((src 0).getLsbD 0 = false ↔ refusalOf src = some .notValid)

/-- R88, R89 (Tables 5-2, 10-6): the refusal causes in their order; and of an entry that passes validation, every field of
its validated copy: the geometry, the extents, the folds, the site offsets and the bin attributes as read, the thresholds
clamped. Its image, which the probe reads, gives the copy back. What the image holds of the trend words and of empty rows is
assumption log 18. -/
def Obligations.ValidRecipeInRange : Prop :=
  (∀ src : Nat → Byte,
    let byte (o : Nat) : Nat := (src o).toNat
    let half (o : Nat) : Nat := byte o + 256 * byte (o + 1)
    let valid : Prop := (src 0).getLsbD 0 = true
    let geometry : Prop := 1 ≤ half 4 ∧ half 4 ≤ 512 ∧ 1 ≤ half 6 ∧ half 6 ≤ 512
    let extents : Prop := ∀ y < half 6, half (1024 + 4 * y) = 0xFFFF ∨
      half (1024 + 4 * y) ≤ half (1026 + 4 * y) ∧ half (1026 + 4 * y) < half 4
    let folds : Prop := byte 3 ≤ 32 ∧ ∀ i < byte 3, half (352 + 8 * i) ≤ half (354 + 8 * i)
    let codes : Prop := (∀ i < byte 3, byte (356 + 8 * i) ≤ 63) ∧ byte 8 ≤ 63
    let sites : Prop := 1 ≤ byte 2 ∧ byte 2 ≤ 16
    let policy : Prop := byte 1 ≤ 2
    (¬ valid → refusalOf src = some .notValid) ∧
    (valid → ¬ geometry → refusalOf src = some .badGeometry) ∧
    (valid → geometry → ¬ extents → refusalOf src = some .badExtent) ∧
    (valid → geometry → extents → ¬ folds → refusalOf src = some .badFold) ∧
    (valid → geometry → extents → folds → ¬ codes → refusalOf src = some .badCode) ∧
    (valid → geometry → extents → folds → codes → ¬ sites → refusalOf src = some .badSites) ∧
    (valid → geometry → extents → folds → codes → sites → ¬ policy → refusalOf src = some .badPolicy) ∧
    (valid → geometry → extents → folds → codes → sites → policy → refusalOf src = none)) ∧
  ∀ src : Nat → Byte, refusalOf src = none →
    let r := recipeOf src
    let byte (o : Nat) : Nat := (src o).toNat
    let half (o : Nat) : Nat := byte o + 256 * byte (o + 1)
    let bp (o : Nat) : Nat := min (half o) 10000
    let mask (m : Mask) (o : Nat) : Prop :=
      [m.yieldFloor, m.binLimit, m.siteRun, m.siteGap, m.idle, m.trendLow, m.lotFloor] =
        (List.range 7).map (src o).getLsbD
    r.valid = true ∧ r.cols = half 4 ∧ r.rows = half 6 ∧ 1 ≤ r.cols ∧ r.cols ≤ 512 ∧ 1 ≤ r.rows ∧ r.rows ≤ 512 ∧
    r.extents = (List.range r.rows).map (fun y => if half (1024 + 4 * y) = 0xFFFF then none
      else some (half (1024 + 4 * y), half (1026 + 4 * y))) ∧
    (∀ (y : Nat) (first last : Nat), r.extents[y]? = some (some (first, last)) → first ≤ last ∧ last < r.cols) ∧
    r.folds.length = byte 3 ∧ r.folds.length ≤ 32 ∧
    (∀ (i : Nat) (f : FoldRange), r.folds[i]? = some f → f.lo = half (352 + 8 * i) ∧ f.hi = half (354 + 8 * i) ∧
      f.lo ≤ f.hi ∧ f.code.val = byte (356 + 8 * i)) ∧
    r.stray.val = byte 8 ∧ r.policy.code = byte 1 ∧ r.siteCount = byte 2 ∧ 1 ≤ r.siteCount ∧ r.siteCount ≤ 16 ∧
    r.offsets = (List.range r.siteCount).map (fun i => (((src (64 + 2 * i)).extractLsb' 0 7).toInt,
      ((src (65 + 2 * i)).extractLsb' 0 7).toInt)) ∧
    (∀ b : BinCode, r.bins[b] =
      ⟨(src (96 + 4 * b.val)).getLsbD 7, byte (96 + 4 * b.val) % 64, bp (98 + 4 * b.val)⟩) ∧
    r.minSample = max 1 (half 12) ∧ r.floor = bp 14 ∧ r.floorHyst = bp 16 ∧ r.binHyst = bp 18 ∧ r.runLimit = byte 20 ∧
    r.gapLimit = bp 22 ∧ r.gapHyst = bp 24 ∧ r.idleLimit = half 26 ∧ r.margin = bp 28 ∧ r.lotFloor = bp 30 ∧
    r.autoclose = (src 9).getLsbD 0 ∧ r.guarded = (src 9).getLsbD 1 ∧ r.weight = min 8 (max 1 (byte 10)) ∧
    r.warmup = max 1 (byte 11) ∧ mask r.assertMask 32 ∧ mask r.releaseMask 33 ∧ mask r.holdMask 34 ∧
    r.trendE = min (half 36 + 65536 * half 38 : Nat) 2560000 ∧ r.trendCount = half 40 ∧
    r.image.length = 4096 ∧ recipeOf (fun o => r.image.getD o 0) = r

/-- R101, R99, R98: a trend writeback stores E and the count that it took; a deferred one then takes the words as they stand, a
load that waited begins its read, and a stale unpinned entry becomes INVALID. The lanes in WAIT_RECIPE return to READY when
an unpinned entry is free again. -/
def Obligations.TrendWordsStored : Prop :=
  ∀ (e : EntryId) (w : TrendWrite) (s : State), s.engine.run ≠ .faulted → s.cache[e].writing = some w →
    let c := s.cache[e]
    let table := s.engine.config.recipeTable + c.number * 4096
    ∃ t, exec (.trendWritebackDone e) s = .next t ∧
      t = { s with mem := t.mem, past := t.past, lanes := t.lanes, cache := t.cache } ∧
      (∀ e' : EntryId, e' ≠ e → t.cache[e'] = s.cache[e']) ∧
      s.stores t w.addr (leInt 4 w.e ++ [BitVec.ofNat 8 w.count, BitVec.ofNat 8 (w.count / 256), 0, 0]) ∧
      (c.deferred = true → t.cache[e] = { c with
        deferred := false, dirty := false, writing := some ⟨table + 36, c.trendE, c.trendCnt⟩ }) ∧
      (c.deferred = false → c.load = .afterTrend → t.cache[e] = { c with
        writing := none, load := .reading t.past.length }) ∧
      (c.deferred = false → c.load ≠ .afterTrend → c.state = .valid ∧ c.stale = true ∧ c.pins = 0 → t.cache[e] = { c with
        writing := none, state := .invalid, stale := false, mark := none, waiters := Vector.replicate 16 false }) ∧
      (c.deferred = false → c.load ≠ .afterTrend → ¬ (c.state = .valid ∧ c.stale = true ∧ c.pins = 0) →
        t.cache[e] = { c with writing := none }) ∧
      ∀ l : LaneId, t.lanes[l] =
        if s.lanes[l].state = .waitRecipe ∧ c.pins = 0 ∧
            (c.state = .valid ∧ ((∀ i : LaneId, c.waiters[i] = false) ∨ t.cache[e].state = .invalid) ∨
              t.cache[e].state ≠ .loading ∧ t.cache[e].pins = 0 ∧ (∀ i : LaneId, t.cache[e].waiters[i] = false) ∧
                t.cache[e].writing = none) then
          { s.lanes[l] with state := .ready }
        else s.lanes[l]

/-! ### Close items -/

/-- R110 to R114, R83, R61: an IDLE Close Unit takes the item at the head of the queue. A context's item begins with its dirty
window, then its rows not yet materialized in ascending order, then the trend comparison and update (a low trend is latched
and, when enabled, alarms, may hold, and rewrites the live block), then the lot totals and the summary. A lot entry's item
begins with its floor. That a drain's writeback of the window still in flight keeps the item at its window (R23) is
assumption log 25. -/
def Obligations.CloseItemBegins : Prop :=
  ∀ s : State,
    (s.closeUnit ≠ .idle ∨ s.closeQ = [] → s.serve = s) ∧
    (∀ k q, s.closeUnit = .idle → s.closeQ = .ctx k :: q →
      let c := s.ctxs[k]
      let r := s.recipeFor k
      let e := s.cache[c.entry]
      let settled : Prop := c.dirty = false ∧ c.drainWrite = false ∨ c.winRow = none
      (c.dirty = true ∨ c.drainWrite = true → c.winRow ≠ none → s.serve = { s with closeUnit := .window }) ∧
      (∀ y : RowId, settled → y.val < r.rows → c.rowsDone[y] = false →
        (∀ y' < y, c.rowsDone[y'] = true) → s.serve = { s with closeUnit := .rows y }) ∧
      (settled → (∀ y : RowId, y.val < r.rows → c.rowsDone[y] = true) →
        (c.tested < r.minSample → s.serve = s.closeTotals k) ∧
        (r.minSample ≤ c.tested →
          let u : State := { s with
            cache := modAt s.cache c.entry fun n => { n with
              trendE := trendNext r c e.trendE e.trendCnt, trendCnt := min (e.trendCnt + 1) 65535, dirty := true } }
          let v : State := { u with
            ctxs := modAt s.ctxs k fun c => { c with latched := { c.latched with trend := true } } }
          (trendLow r c e.trendE e.trendCnt = false → s.serve = u.closeTotals k) ∧
          (trendLow r c e.trendE e.trendCnt = true → r.assertMask.trendLow = false → s.serve = v.closeTotals k) ∧
          (trendLow r c e.trendE e.trendCnt = true → r.assertMask.trendLow = true →
            s.serve = State.rewrite { v with
              notices := modAt s.notices c.lane fun n => { n with alarm := true }
              lanes := if r.holdMask.trendLow = true then modAt s.lanes c.lane fun n => { n with hold := true }
                else s.lanes
              closeUnit := .trendRewrite } k .closeStep)))) ∧
    (∀ k, s.ctxs[k].jobs = [] → s.ctxs[k].slotPhase = none → s.slotFree k →
      s.closeTotals k = { s with
        closeUnit := .summary
        lots := modAt s.lots s.ctxs[k].lot fun t => { t with
          tested := t.tested + s.ctxs[k].tested
          good := t.good + s.ctxs[k].good
          bins := Vector.ofFn fun b => t.bins[b] + s.ctxs[k].bins[b] }
        ctxs := modAt s.ctxs k fun c => { c with jobs := [.summary], slotPhase := some .summary } }) ∧
    ∀ i q, s.closeUnit = .idle → s.closeQ = .lot i :: q →
      let t := s.lots[i]
      let low : Prop := 0 < t.floor ∧ t.tested ≠ 0 ∧ t.good * 10000 / (t.tested : Int) < t.floor ∨
        0 < t.floor ∧ t.tested = 0
      (¬ low → s.serve = { s with closeUnit := .lotSummary }) ∧
      (low → s.serve = { s with
        closeUnit := .lotSummary
        lots := modAt s.lots i fun t => { t with lowFlag := true }
        notices := if t.assertFlag = true then modAt s.notices t.endingLane fun n => { n with alarm := true }
          else s.notices
        lanes := if t.assertFlag = true ∧ t.holdFlag = true then
            modAt s.lanes t.endingLane fun n => { n with hold := true }
          else s.lanes })

/-- R112, R113, R17: the writes of a context's item. The window's row (after a drain's writeback of it that is in flight:
assumption log 25) and each synthesized row mark their row materialized and the item goes on; the summary is followed by
POSTED; with POSTED written the context is CLOSED, CLOSE is set, its pin is released and its lot has one open wafer less,
and the next item begins. R98, R99: the release of a pin, and with the last one the lanes in WAIT_RECIPE return to READY,
and a stale entry stores its dirty trend words or becomes INVALID. R119, R172 (Table 10-7): the layout of the summary
block, bytes 512..951 of the slot. -/
def Obligations.ContextItemAndPin : Prop :=
  (∀ (s : State) (k : CtxId) (q : List CloseItem), s.engine.run = .running → s.closeQ = .ctx k :: q →
     let cols := (s.recipeFor k).cols
     let row (y : RowId) : Nat := s.engine.config.mapBase + k.val * s.engine.config.mapStride + y.val * cols * 2
     let slot := s.engine.config.slotBase + k.val * 1024
     let goesOn (u t : State) : Prop := t = { (State.serve { u with closeUnit := .idle }) with messages := t.messages }
     (s.closeUnit = .window → s.ctxs[k].drainWrite = true → exec .closeWindowWritten s = .next s) ∧
     (∀ y, s.closeUnit = .window → s.ctxs[k].drainWrite = false → s.ctxs[k].winRow = some y →
       ∃ (t u : State), exec .closeWindowWritten s = .next t ∧ goesOn u t ∧ s.stores t (row y) (rowBytes s.ctxs[k].cells) ∧
       u = { s with
         mem := t.mem, past := t.past
         ctxs := modAt s.ctxs k fun c => { c with rowsDone := c.rowsDone.set y true, dirty := false } }) ∧
     (∀ y, s.closeUnit = .rows y → s.ctxs[k].dirty = false → s.ctxs[k].drainWrite = false →
       ∃ (t u : State), exec .materializeRowWritten s = .next t ∧ goesOn u t ∧ s.stores t (row y) (rowBytes (synthRow (s.recipeFor k) y)) ∧
       u = { s with
         mem := t.mem, past := t.past
         ctxs := modAt s.ctxs k fun c => { c with rowsDone := c.rowsDone.set y true } }) ∧
     (s.closeUnit = .summary → s.ctxs[k].slotPhase = some .summary → s.ctxs[k].jobs = [.summary] →
       s.slotFree k → ∃ t, exec .summaryWritten s = .next t ∧
       t = { s with
         mem := t.mem, past := t.past
         closeUnit := .posting
         ctxs := modAt s.ctxs k fun c => { c with jobs := [.posted], slotPhase := some .posted } } ∧
       s.stores t (slot + 512)
         (s.ctxs[k].summary (s.lots[s.ctxs[k].lot]).id (s.cache[s.ctxs[k].entry]).trendE)) ∧
     (s.closeUnit = .posting → s.ctxs[k].slotPhase = some .posted → s.ctxs[k].jobs = [.posted] →
       ∃ (t u : State), exec .postedWritten s = .next t ∧
       s.stores t slot [2, 0, 0, 0] ∧
       u = { s with
         mem := t.mem, past := t.past
         ctxs := modAt s.ctxs k fun c => { c with state := .closed, jobs := [], slotPhase := none }
         notices := modAt s.notices s.ctxs[k].lane fun n => { n with close := true }
         lots := modAt s.lots s.ctxs[k].lot fun t => { t with wafersOpen := t.wafersOpen - 1 } } ∧
       t = { (State.serve { u.releasePin s.ctxs[k].entry with closeQ := q, closeUnit := .idle }) with
         messages := t.messages })) ∧
  (∀ (s : State) (e : EntryId),
     let c := s.cache[e]
     ∃ t, t = s.releasePin e ∧ t = { s with cache := t.cache, lanes := t.lanes } ∧
       (∀ e' : EntryId, e' ≠ e → t.cache[e'] = s.cache[e']) ∧
       (2 ≤ c.pins → t.lanes = s.lanes ∧ t.cache[e] = { c with pins := c.pins - 1 }) ∧
       (c.pins ≤ 1 →
         (∀ l : LaneId, t.lanes[l] =
           if s.lanes[l].state = .waitRecipe then { s.lanes[l] with state := .ready } else s.lanes[l]) ∧
         (c.stale = false → t.cache[e] = { c with pins := 0 }) ∧
         (c.stale = true → c.dirty = false → t.cache[e] = { c with
           pins := 0, state := .invalid, stale := false, mark := none, waiters := Vector.replicate 16 false }) ∧
         (c.stale = true → c.dirty = true → c.writing = none → t.cache[e] = { c with
           pins := 0, dirty := false
           writing := some ⟨s.engine.config.recipeTable + c.number * 4096 + 36, c.trendE, c.trendCnt⟩ }) ∧
         (c.stale = true → c.dirty = true → c.writing ≠ none → t.cache[e] = { c with pins := 0, deferred := true }))) ∧
  ∀ (c : Ctx) (lot : Word) (e : Int),
    let bytes := c.summary lot e
    let w (o : Nat) : Nat := get32 (listSrc bytes) (o - 512)
    bytes.length = 440 ∧ w 512 = lot.toNat ∧ w 516 = c.tag.toNat ∧
    w 520 = c.recipeNumber % 2 ^ 16 + 2 ^ 16 * c.cause.code ∧ w 524 = c.tested % 2 ^ 32 ∧
    w 528 = (BitVec.ofInt 32 c.good).toNat ∧
    w 532 = (BitVec.ofInt 16 (waferYield c)).toNat + 2 ^ 16 * (BitVec.ofInt 16 (e / 256)).toNat ∧
    w 536 = c.touches % 2 ^ 32 ∧ w 540 = c.retests % 2 ^ 32 ∧
    (c.firstTouch = none → w 544 = 0) ∧ (∀ f, c.firstTouch = some f → w 544 = f.toNat) ∧ w 548 = c.lastTouch.toNat ∧
    (∀ i < 16, bytes.getD (552 - 512 + i) 0 = c.latched.bytes.getD i 0) ∧
    (∀ b : BinCode, w (568 + 4 * b.val) = (BitVec.ofInt 32 c.bins[b]).toNat) ∧
    ∀ i : SiteId, w (824 + 8 * i.val) = c.siteTested[i] % 2 ^ 32 ∧ w (828 + 8 * i.val) = c.sitePass[i] % 2 ^ 32

/-! ### Drain windows, messages, host writes -/

/-- R22, R163, R126: a drain's window writeback stores its row and cleans the window; a sent message leaves the list; a host
write stores its bytes, and one that would reach outside the 4 GiB of collation memory, where there is none, stops the model
(0.2). That stop is assumption log 3. -/
def Obligations.WindowMessageAndHostWrites : Prop :=
  ∀ (s : State),
    (∀ (k : CtxId) (y : RowId), s.engine.run = .running ∨ s.engine.run = .draining → s.ctxs[k].drainWrite = true →
      s.ctxs[k].winRow = some y → ∃ t, exec (.drainWindowWritten k) s = .next t ∧
        t = { s with
          mem := t.mem, past := t.past
          ctxs := modAt s.ctxs k fun c =>
            { c with rowsDone := c.rowsDone.set y true, dirty := false, drainWrite := false } } ∧
        s.stores t
          (s.engine.config.mapBase + k.val * s.engine.config.mapStride + y.val * (s.recipeFor k).cols * 2)
          (rowBytes s.ctxs[k].cells)) ∧
    exec .interruptMessageSent s = .next { s with messages := s.messages - 1 } ∧
    (∀ (addr : Word) (data : List Byte), addr.toNat + data.length ≤ 2 ^ 32 →
      ∃ t, exec (.memoryWindowWrite addr data) s = .next t ∧ t = { s with mem := t.mem, past := t.past } ∧
        s.stores t addr.toNat data) ∧
    ∀ (addr : Word) (data : List Byte), 2 ^ 32 < addr.toNat + data.length →
      exec (.memoryWindowWrite addr data) s = .fault .outsideMemory

/-! ### Yields, comparisons, trends, monitors -/

/-- R57: of each floor, bin limit and gap monitor the two comparisons are never true together, and a monitor in the band
between them keeps its state. With a hysteresis of 0 the band is empty where the sample is met; below the minimum sample a
yield under its floor is in the band. The premise holds of every recipe copy (R89, `ValidRecipeInRange`). -/
def Obligations.ComparisonsNeverTogether : Prop :=
  ∀ (r : Recipe) (c : Ctx), r.floor ≤ 10000 →
    (floorAsserts r c = false ∨ floorReleases r c = false) ∧
    (∀ b : BinCode, binAsserts r c b = false ∨ binReleases r c b = false) ∧
    (gapAsserts r c = false ∨ gapReleases r c = false) ∧
    (floorAsserts r c = false → floorReleases r c = false → (nextActiveSet r c).floor = c.active.floor) ∧
    (∀ b : BinCode, binAsserts r c b = false → binReleases r c b = false →
      (nextActiveSet r c).bins[b] = c.active.bins[b]) ∧
    (gapAsserts r c = false → gapReleases r c = false → (nextActiveSet r c).gap = c.active.gap) ∧
    (r.floorHyst = 0 → 0 < r.floor → r.minSample ≤ c.tested → floorAsserts r c = true ∨ floorReleases r c = true) ∧
    (∀ b : BinCode, r.binHyst = 0 → 0 < (r.bins[b]).limit → r.minSample ≤ c.tested →
      binAsserts r c b = true ∨ binReleases r c b = true) ∧
    (∀ i j : SiteId, r.gapHyst = 0 → 0 < r.gapLimit → i ≠ j → r.minSample ≤ c.siteTested[i] →
      r.minSample ≤ c.siteTested[j] → gapAsserts r c = true ∨ gapReleases r c = true) ∧
    (c.tested < r.minSample → waferYield c < r.floor → floorAsserts r c = false ∧ floorReleases r c = false)

/-- R50 to R56, R58: the yields are floors of their ratios, 0 with nothing tested, and each monitor's comparisons are those of
its rule, gated by the minimum sample. -/
def Obligations.YieldComparisons : Prop :=
  ∀ (r : Recipe) (c : Ctx),
    let y := waferYield c
    let m := r.minSample
    (c.tested = 0 → y = 0) ∧
    (0 < c.tested → y * c.tested ≤ c.good * 10000 ∧ c.good * 10000 < (y + 1) * c.tested) ∧
    (∀ i : SiteId, (c.siteTested[i] = 0 → siteYield c i = 0) ∧
      (0 < c.siteTested[i] → siteYield c i * c.siteTested[i] ≤ c.sitePass[i] * 10000 ∧
        c.sitePass[i] * 10000 < (siteYield c i + 1) * c.siteTested[i])) ∧
    (floorAsserts r c = true ↔ 0 < r.floor ∧ m ≤ c.tested ∧ y < r.floor) ∧
    (floorReleases r c = true ↔ 0 < r.floor ∧ (r.floor + r.floorHyst ≤ y ∨ 10000 ≤ y)) ∧
    (∀ b : BinCode,
      let limit := (r.bins[b]).limit
      (binAsserts r c b = true ↔ 0 < limit ∧ m ≤ c.tested ∧ (limit : Int) * c.tested < c.bins[b] * 10000) ∧
      (binReleases r c b = true ↔
        0 < limit ∧ c.bins[b] * 10000 ≤ max ((limit : Int) - r.binHyst) 0 * c.tested)) ∧
    (∀ i : SiteId,
      (runAsserts r c i = true ↔ 0 < r.runLimit ∧ r.runLimit ≤ c.run[i]) ∧
      (runReleases r c i = true ↔ 0 < r.runLimit ∧ c.run[i] = 0)) ∧
    (gapAsserts r c = true ↔ 0 < r.gapLimit ∧ ∃ i j : SiteId, m ≤ c.siteTested[i] ∧ m ≤ c.siteTested[j] ∧
      siteYield c j + r.gapLimit < siteYield c i) ∧
    (gapReleases r c = true ↔ 0 < r.gapLimit ∧
      (∃ i j : SiteId, i ≠ j ∧ m ≤ c.siteTested[i] ∧ m ≤ c.siteTested[j]) ∧
      ∀ i j : SiteId, m ≤ c.siteTested[i] → m ≤ c.siteTested[j] →
        siteYield c i ≤ siteYield c j + (r.gapLimit - r.gapHyst))

/-- R60 to R62: the trend test and the update of E: seeded at count 0, left alone by the guard on a low wafer, otherwise moved
towards the wafer's yield and never past it; so E and the reported trend stay in range. -/
def Obligations.TrendUpdate : Prop :=
  ∀ (r : Recipe) (c : Ctx) (e : Int) (count : Nat), 0 ≤ c.good → c.good ≤ c.tested → 0 ≤ e → e ≤ 2560000 →
    let y := waferYield c
    let new := trendNext r c e count
    0 ≤ y ∧ y ≤ 10000 ∧
    (trendLow r c e count = true ↔ r.warmup ≤ count ∧ y * 256 + r.margin * 256 < e) ∧
    (r.guarded = true → trendLow r c e count = true → new = e) ∧
    (r.guarded = false ∨ trendLow r c e count = false → count = 0 → new = y * 256) ∧
    (r.guarded = false ∨ trendLow r c e count = false → count ≠ 0 →
      (e ≤ y * 256 → new = e + (y * 256 - e) / 2 ^ r.weight) ∧
      (y * 256 ≤ e → new = e - (e - y * 256) / 2 ^ r.weight)) ∧
    min e (y * 256) ≤ new ∧ new ≤ max e (y * 256) ∧ 0 ≤ new ∧ new ≤ 2560000 ∧
    0 ≤ reportedTrend new ∧ reportedTrend new ≤ 10000

/-- R67, R69 to R72 (Table 4-2): how one evaluation decides every instance, which events it raises, and which of them are
enabled and hold. -/
def Obligations.EvaluationDecides : Prop :=
  ∀ (r : Recipe) (c : Ctx),
    let set := nextActiveSet r c
    let evs := evaluationEvents c.active set
    let t := evaluated r c
    t = { c with active := set, latched := t.latched } ∧
    (c.active.floor = false → set.floor = floorAsserts r c) ∧ (c.active.floor = true → set.floor = !floorReleases r c) ∧
    (c.active.gap = false → set.gap = gapAsserts r c) ∧ (c.active.gap = true → set.gap = !gapReleases r c) ∧
    set.idle = false ∧
    (∀ b : BinCode, (c.active.bins[b] = false → set.bins[b] = binAsserts r c b) ∧
      (c.active.bins[b] = true → set.bins[b] = !binReleases r c b)) ∧
    (∀ i : SiteId, (c.active.sites[i] = false → set.sites[i] = runAsserts r c i) ∧
      (c.active.sites[i] = true → set.sites[i] = !runReleases r c i)) ∧
    (t.latched.floor = true ↔ c.latched.floor = true ∨ set.floor = true) ∧
    (t.latched.gap = true ↔ c.latched.gap = true ∨ set.gap = true) ∧ t.latched.idle = c.latched.idle ∧
    (∀ b : BinCode, t.latched.bins[b] = true ↔ c.latched.bins[b] = true ∨ set.bins[b] = true) ∧
    (∀ i : SiteId, t.latched.sites[i] = true ↔ c.latched.sites[i] = true ∨ set.sites[i] = true) ∧
    (∀ a : Bool,
      (⟨.yieldFloor, a⟩ ∈ evs ↔ c.active.floor = !a ∧ set.floor = a) ∧
      (⟨.siteGap, a⟩ ∈ evs ↔ c.active.gap = !a ∧ set.gap = a) ∧
      (⟨.idle, a⟩ ∈ evs ↔ c.active.idle = true ∧ a = false) ∧
      (⟨.binLimit, a⟩ ∈ evs ↔ ∃ b : BinCode, c.active.bins[b] = !a ∧ set.bins[b] = a) ∧
      (⟨.siteRun, a⟩ ∈ evs ↔ ∃ i : SiteId, c.active.sites[i] = !a ∧ set.sites[i] = a) ∧
      ⟨.trendLow, a⟩ ∉ evs ∧ ⟨.lotFloor, a⟩ ∉ evs) ∧
    ∀ (k : MonitorKind),
      (Event.enabled r ⟨k, true⟩ = true ↔ r.assertMask.has k = true) ∧
      (Event.enabled r ⟨k, false⟩ = true ↔ r.releaseMask.has k = true) ∧
      (Event.holds r ⟨k, true⟩ = true ↔ r.assertMask.has k = true ∧ r.holdMask.has k = true) ∧
      Event.holds r ⟨k, false⟩ = false

/-! ### Invariants that every step keeps -/

/-- Collation memory keeps its canonical form. -/
def Obligations.MemoryKeepsItsForm : Prop :=
  ∀ s t : State, Mem.wf s.mem = true → step s = .next t → Mem.wf t.mem = true

/-- R39, R116: the bin counts of every context add up to its tested count, and the bin totals of every lot entry to its
tested sum. The counts are exact integers also after a host has corrupted a row (assumption log 14). -/
def Obligations.CountsStayConsistent : Prop :=
  ∀ s t : State, s.countsAgree → step s = .next t → t.countsAgree

/-- R66: the latched set of every context contains its active set. -/
def Obligations.LatchedKeepsActive : Prop :=
  ∀ s t : State, s.latchedHoldsActive → step s = .next t → t.latchedHoldsActive

/-- R15, R4, R90, R163: site counters and runs stay in their ranges, the last-use order holds each cache entry once, and at
most 8 interrupt messages are held. -/
def Obligations.TablesStayInRange : Prop :=
  ∀ s t : State, s.sitesInRange ∧ s.lastUseOk ∧ s.messagesOk → step s = .next t →
    t.sitesInRange ∧ t.lastUseOk ∧ t.messagesOk

/-- The state after reset meets every invariant. -/
def Obligations.ResetIsSound : Prop := State.reset.sound ∧ State.reset.drainWorkStarted

/-- R163: the messages that a command raises: in EDGE mode one when PEND goes from false to true, in EACH mode one for each
enabled flag that goes from clear to set, each dropped while 8 are held. A sent message and a reset aside, no command
changes the messages held otherwise. The message being sent counts as held (assumption log 20), and a CONTROL write raises
its messages once, by the mode it leaves (assumption log 9). -/
def Obligations.MessagesFollowNotices : Prop :=
  ∀ (c : Instr) (s t : State), exec c s = .next t → c ≠ .interruptMessageSent → (∀ d, c ≠ .powerOnReset d) →
    (∀ d, c ≠ .portReset d) → s.messages ≤ 8 →
    (t.control.each = false → t.messages =
      if s.pend = false ∧ t.pend = true then min 8 (s.messages + 1) else s.messages) ∧
    (t.control.each = true → t.messages = min 8 (s.messages + newlySet s t))

/-- R151: in FAULTED every command but the resets, a CLEAR, a host write of collation memory and a probe write leaves Engine
Control, the tables, every block and collation memory as they are. -/
def Obligations.FaultedHoldsEverything : Prop :=
  ∀ (c : Instr) (s : State), s.engine.run = .faulted → (∀ d, c ≠ .powerOnReset d) → (∀ d, c ≠ .portReset d) →
    (∀ d, c ≠ .clear d) → (∀ a d, c ≠ .memoryWindowWrite a d) → c ≠ .probeWriteStore →
    (∀ n v, c = .registerWrite 0 n v → v.getLsbD 18 = false) →
    ∃ t, exec c s = .next t ∧ t = { s with
      control := t.control, command := t.command, notices := t.notices, flags := t.flags, messages := t.messages
      probe := t.probe, readValue := t.readValue }

/-- R149: while DRAINING, every writeback that is due has started: with the Merge Engine IDLE, that of every dirty window of
an OPEN context; and with no RETIRE pending and the Close Unit with nothing to serve, that of every dirty trend word. -/
def Obligations.DrainWorkStaysStarted : Prop :=
  ∀ s t : State, s.drainWorkStarted → step s = .next t → t.drainWorkStarted
end

