-- ==== Sys2Proof/Laws/State.lean ====
section
/-!
SUPPORT. What each record update leaves: one lemma per field per update, so that no later proof unfolds an update; and
what one entry of a table reads after an update of the table.
-/

namespace Sys2Proof.Machine

variable (s : State)

/-! ### State.modCtx -/

@[simp] theorem State.modCtx_engine (k : CtxId) (f : Ctx → Ctx) : (s.modCtx k f).engine = s.engine := rfl
@[simp] theorem State.modCtx_control (k : CtxId) (f : Ctx → Ctx) : (s.modCtx k f).control = s.control := rfl
@[simp] theorem State.modCtx_common (k : CtxId) (f : Ctx → Ctx) : (s.modCtx k f).common = s.common := rfl
@[simp] theorem State.modCtx_command (k : CtxId) (f : Ctx → Ctx) : (s.modCtx k f).command = s.command := rfl
@[simp] theorem State.modCtx_notices (k : CtxId) (f : Ctx → Ctx) : (s.modCtx k f).notices = s.notices := rfl
@[simp] theorem State.modCtx_flags (k : CtxId) (f : Ctx → Ctx) : (s.modCtx k f).flags = s.flags := rfl
@[simp] theorem State.modCtx_messages (k : CtxId) (f : Ctx → Ctx) : (s.modCtx k f).messages = s.messages := rfl
@[simp] theorem State.modCtx_probe (k : CtxId) (f : Ctx → Ctx) : (s.modCtx k f).probe = s.probe := rfl
@[simp] theorem State.modCtx_readValue (k : CtxId) (f : Ctx → Ctx) : (s.modCtx k f).readValue = s.readValue := rfl
@[simp] theorem State.modCtx_ctxs (k : CtxId) (f : Ctx → Ctx) : (s.modCtx k f).ctxs = modAt s.ctxs k f := rfl
@[simp] theorem State.modCtx_lanes (k : CtxId) (f : Ctx → Ctx) : (s.modCtx k f).lanes = s.lanes := rfl
@[simp] theorem State.modCtx_cache (k : CtxId) (f : Ctx → Ctx) : (s.modCtx k f).cache = s.cache := rfl
@[simp] theorem State.modCtx_lastUse (k : CtxId) (f : Ctx → Ctx) : (s.modCtx k f).lastUse = s.lastUse := rfl
@[simp] theorem State.modCtx_lots (k : CtxId) (f : Ctx → Ctx) : (s.modCtx k f).lots = s.lots := rfl
@[simp] theorem State.modCtx_merge (k : CtxId) (f : Ctx → Ctx) : (s.modCtx k f).merge = s.merge := rfl
@[simp] theorem State.modCtx_closeQ (k : CtxId) (f : Ctx → Ctx) : (s.modCtx k f).closeQ = s.closeQ := rfl
@[simp] theorem State.modCtx_closeUnit (k : CtxId) (f : Ctx → Ctx) : (s.modCtx k f).closeUnit = s.closeUnit := rfl
@[simp] theorem State.modCtx_scan (k : CtxId) (f : Ctx → Ctx) : (s.modCtx k f).scan = s.scan := rfl
@[simp] theorem State.modCtx_second (k : CtxId) (f : Ctx → Ctx) : (s.modCtx k f).second = s.second := rfl
@[simp] theorem State.modCtx_mem (k : CtxId) (f : Ctx → Ctx) : (s.modCtx k f).mem = s.mem := rfl
@[simp] theorem State.modCtx_past (k : CtxId) (f : Ctx → Ctx) : (s.modCtx k f).past = s.past := rfl
@[simp] theorem State.modCtx_pending (k : CtxId) (f : Ctx → Ctx) : (s.modCtx k f).pending = s.pending := rfl

/-! ### State.modLane -/

@[simp] theorem State.modLane_engine (l : LaneId) (f : Lane → Lane) : (s.modLane l f).engine = s.engine := rfl
@[simp] theorem State.modLane_control (l : LaneId) (f : Lane → Lane) : (s.modLane l f).control = s.control := rfl
@[simp] theorem State.modLane_common (l : LaneId) (f : Lane → Lane) : (s.modLane l f).common = s.common := rfl
@[simp] theorem State.modLane_command (l : LaneId) (f : Lane → Lane) : (s.modLane l f).command = s.command := rfl
@[simp] theorem State.modLane_notices (l : LaneId) (f : Lane → Lane) : (s.modLane l f).notices = s.notices := rfl
@[simp] theorem State.modLane_flags (l : LaneId) (f : Lane → Lane) : (s.modLane l f).flags = s.flags := rfl
@[simp] theorem State.modLane_messages (l : LaneId) (f : Lane → Lane) : (s.modLane l f).messages = s.messages := rfl
@[simp] theorem State.modLane_probe (l : LaneId) (f : Lane → Lane) : (s.modLane l f).probe = s.probe := rfl
@[simp] theorem State.modLane_readValue (l : LaneId) (f : Lane → Lane) : (s.modLane l f).readValue = s.readValue := rfl
@[simp] theorem State.modLane_ctxs (l : LaneId) (f : Lane → Lane) : (s.modLane l f).ctxs = s.ctxs := rfl
@[simp] theorem State.modLane_lanes (l : LaneId) (f : Lane → Lane) : (s.modLane l f).lanes = modAt s.lanes l f := rfl
@[simp] theorem State.modLane_cache (l : LaneId) (f : Lane → Lane) : (s.modLane l f).cache = s.cache := rfl
@[simp] theorem State.modLane_lastUse (l : LaneId) (f : Lane → Lane) : (s.modLane l f).lastUse = s.lastUse := rfl
@[simp] theorem State.modLane_lots (l : LaneId) (f : Lane → Lane) : (s.modLane l f).lots = s.lots := rfl
@[simp] theorem State.modLane_merge (l : LaneId) (f : Lane → Lane) : (s.modLane l f).merge = s.merge := rfl
@[simp] theorem State.modLane_closeQ (l : LaneId) (f : Lane → Lane) : (s.modLane l f).closeQ = s.closeQ := rfl
@[simp] theorem State.modLane_closeUnit (l : LaneId) (f : Lane → Lane) : (s.modLane l f).closeUnit = s.closeUnit := rfl
@[simp] theorem State.modLane_scan (l : LaneId) (f : Lane → Lane) : (s.modLane l f).scan = s.scan := rfl
@[simp] theorem State.modLane_second (l : LaneId) (f : Lane → Lane) : (s.modLane l f).second = s.second := rfl
@[simp] theorem State.modLane_mem (l : LaneId) (f : Lane → Lane) : (s.modLane l f).mem = s.mem := rfl
@[simp] theorem State.modLane_past (l : LaneId) (f : Lane → Lane) : (s.modLane l f).past = s.past := rfl
@[simp] theorem State.modLane_pending (l : LaneId) (f : Lane → Lane) : (s.modLane l f).pending = s.pending := rfl

/-! ### State.modEntry -/

@[simp] theorem State.modEntry_engine (e : EntryId) (f : CacheEntry → CacheEntry) : (s.modEntry e f).engine = s.engine := rfl
@[simp] theorem State.modEntry_control (e : EntryId) (f : CacheEntry → CacheEntry) : (s.modEntry e f).control = s.control := rfl
@[simp] theorem State.modEntry_common (e : EntryId) (f : CacheEntry → CacheEntry) : (s.modEntry e f).common = s.common := rfl
@[simp] theorem State.modEntry_command (e : EntryId) (f : CacheEntry → CacheEntry) : (s.modEntry e f).command = s.command := rfl
@[simp] theorem State.modEntry_notices (e : EntryId) (f : CacheEntry → CacheEntry) : (s.modEntry e f).notices = s.notices := rfl
@[simp] theorem State.modEntry_flags (e : EntryId) (f : CacheEntry → CacheEntry) : (s.modEntry e f).flags = s.flags := rfl
@[simp] theorem State.modEntry_messages (e : EntryId) (f : CacheEntry → CacheEntry) : (s.modEntry e f).messages = s.messages := rfl
@[simp] theorem State.modEntry_probe (e : EntryId) (f : CacheEntry → CacheEntry) : (s.modEntry e f).probe = s.probe := rfl
@[simp] theorem State.modEntry_readValue (e : EntryId) (f : CacheEntry → CacheEntry) : (s.modEntry e f).readValue = s.readValue := rfl
@[simp] theorem State.modEntry_ctxs (e : EntryId) (f : CacheEntry → CacheEntry) : (s.modEntry e f).ctxs = s.ctxs := rfl
@[simp] theorem State.modEntry_lanes (e : EntryId) (f : CacheEntry → CacheEntry) : (s.modEntry e f).lanes = s.lanes := rfl
@[simp] theorem State.modEntry_cache (e : EntryId) (f : CacheEntry → CacheEntry) : (s.modEntry e f).cache = modAt s.cache e f := rfl
@[simp] theorem State.modEntry_lastUse (e : EntryId) (f : CacheEntry → CacheEntry) : (s.modEntry e f).lastUse = s.lastUse := rfl
@[simp] theorem State.modEntry_lots (e : EntryId) (f : CacheEntry → CacheEntry) : (s.modEntry e f).lots = s.lots := rfl
@[simp] theorem State.modEntry_merge (e : EntryId) (f : CacheEntry → CacheEntry) : (s.modEntry e f).merge = s.merge := rfl
@[simp] theorem State.modEntry_closeQ (e : EntryId) (f : CacheEntry → CacheEntry) : (s.modEntry e f).closeQ = s.closeQ := rfl
@[simp] theorem State.modEntry_closeUnit (e : EntryId) (f : CacheEntry → CacheEntry) : (s.modEntry e f).closeUnit = s.closeUnit := rfl
@[simp] theorem State.modEntry_scan (e : EntryId) (f : CacheEntry → CacheEntry) : (s.modEntry e f).scan = s.scan := rfl
@[simp] theorem State.modEntry_second (e : EntryId) (f : CacheEntry → CacheEntry) : (s.modEntry e f).second = s.second := rfl
@[simp] theorem State.modEntry_mem (e : EntryId) (f : CacheEntry → CacheEntry) : (s.modEntry e f).mem = s.mem := rfl
@[simp] theorem State.modEntry_past (e : EntryId) (f : CacheEntry → CacheEntry) : (s.modEntry e f).past = s.past := rfl
@[simp] theorem State.modEntry_pending (e : EntryId) (f : CacheEntry → CacheEntry) : (s.modEntry e f).pending = s.pending := rfl

/-! ### State.modLot -/

@[simp] theorem State.modLot_engine (i : LotId) (f : Lot → Lot) : (s.modLot i f).engine = s.engine := rfl
@[simp] theorem State.modLot_control (i : LotId) (f : Lot → Lot) : (s.modLot i f).control = s.control := rfl
@[simp] theorem State.modLot_common (i : LotId) (f : Lot → Lot) : (s.modLot i f).common = s.common := rfl
@[simp] theorem State.modLot_command (i : LotId) (f : Lot → Lot) : (s.modLot i f).command = s.command := rfl
@[simp] theorem State.modLot_notices (i : LotId) (f : Lot → Lot) : (s.modLot i f).notices = s.notices := rfl
@[simp] theorem State.modLot_flags (i : LotId) (f : Lot → Lot) : (s.modLot i f).flags = s.flags := rfl
@[simp] theorem State.modLot_messages (i : LotId) (f : Lot → Lot) : (s.modLot i f).messages = s.messages := rfl
@[simp] theorem State.modLot_probe (i : LotId) (f : Lot → Lot) : (s.modLot i f).probe = s.probe := rfl
@[simp] theorem State.modLot_readValue (i : LotId) (f : Lot → Lot) : (s.modLot i f).readValue = s.readValue := rfl
@[simp] theorem State.modLot_ctxs (i : LotId) (f : Lot → Lot) : (s.modLot i f).ctxs = s.ctxs := rfl
@[simp] theorem State.modLot_lanes (i : LotId) (f : Lot → Lot) : (s.modLot i f).lanes = s.lanes := rfl
@[simp] theorem State.modLot_cache (i : LotId) (f : Lot → Lot) : (s.modLot i f).cache = s.cache := rfl
@[simp] theorem State.modLot_lastUse (i : LotId) (f : Lot → Lot) : (s.modLot i f).lastUse = s.lastUse := rfl
@[simp] theorem State.modLot_lots (i : LotId) (f : Lot → Lot) : (s.modLot i f).lots = modAt s.lots i f := rfl
@[simp] theorem State.modLot_merge (i : LotId) (f : Lot → Lot) : (s.modLot i f).merge = s.merge := rfl
@[simp] theorem State.modLot_closeQ (i : LotId) (f : Lot → Lot) : (s.modLot i f).closeQ = s.closeQ := rfl
@[simp] theorem State.modLot_closeUnit (i : LotId) (f : Lot → Lot) : (s.modLot i f).closeUnit = s.closeUnit := rfl
@[simp] theorem State.modLot_scan (i : LotId) (f : Lot → Lot) : (s.modLot i f).scan = s.scan := rfl
@[simp] theorem State.modLot_second (i : LotId) (f : Lot → Lot) : (s.modLot i f).second = s.second := rfl
@[simp] theorem State.modLot_mem (i : LotId) (f : Lot → Lot) : (s.modLot i f).mem = s.mem := rfl
@[simp] theorem State.modLot_past (i : LotId) (f : Lot → Lot) : (s.modLot i f).past = s.past := rfl
@[simp] theorem State.modLot_pending (i : LotId) (f : Lot → Lot) : (s.modLot i f).pending = s.pending := rfl

/-! ### State.store -/

@[simp] theorem State.store_engine (a : Nat) (vs : List Byte) : (s.store a vs).engine = s.engine := rfl
@[simp] theorem State.store_control (a : Nat) (vs : List Byte) : (s.store a vs).control = s.control := rfl
@[simp] theorem State.store_common (a : Nat) (vs : List Byte) : (s.store a vs).common = s.common := rfl
@[simp] theorem State.store_command (a : Nat) (vs : List Byte) : (s.store a vs).command = s.command := rfl
@[simp] theorem State.store_notices (a : Nat) (vs : List Byte) : (s.store a vs).notices = s.notices := rfl
@[simp] theorem State.store_flags (a : Nat) (vs : List Byte) : (s.store a vs).flags = s.flags := rfl
@[simp] theorem State.store_messages (a : Nat) (vs : List Byte) : (s.store a vs).messages = s.messages := rfl
@[simp] theorem State.store_probe (a : Nat) (vs : List Byte) : (s.store a vs).probe = s.probe := rfl
@[simp] theorem State.store_readValue (a : Nat) (vs : List Byte) : (s.store a vs).readValue = s.readValue := rfl
@[simp] theorem State.store_ctxs (a : Nat) (vs : List Byte) : (s.store a vs).ctxs = s.ctxs := rfl
@[simp] theorem State.store_lanes (a : Nat) (vs : List Byte) : (s.store a vs).lanes = s.lanes := rfl
@[simp] theorem State.store_cache (a : Nat) (vs : List Byte) : (s.store a vs).cache = s.cache := rfl
@[simp] theorem State.store_lastUse (a : Nat) (vs : List Byte) : (s.store a vs).lastUse = s.lastUse := rfl
@[simp] theorem State.store_lots (a : Nat) (vs : List Byte) : (s.store a vs).lots = s.lots := rfl
@[simp] theorem State.store_merge (a : Nat) (vs : List Byte) : (s.store a vs).merge = s.merge := rfl
@[simp] theorem State.store_closeQ (a : Nat) (vs : List Byte) : (s.store a vs).closeQ = s.closeQ := rfl
@[simp] theorem State.store_closeUnit (a : Nat) (vs : List Byte) : (s.store a vs).closeUnit = s.closeUnit := rfl
@[simp] theorem State.store_scan (a : Nat) (vs : List Byte) : (s.store a vs).scan = s.scan := rfl
@[simp] theorem State.store_second (a : Nat) (vs : List Byte) : (s.store a vs).second = s.second := rfl
@[simp] theorem State.store_mem (a : Nat) (vs : List Byte) : (s.store a vs).mem = Mem.writeBytes s.mem a vs := rfl
@[simp] theorem State.store_past (a : Nat) (vs : List Byte) : (s.store a vs).past = s.past ++ s.replaced (cellsAt a vs) := rfl
@[simp] theorem State.store_pending (a : Nat) (vs : List Byte) : (s.store a vs).pending = s.pending := rfl

/-! ### State.storeCells -/

@[simp] theorem State.storeCells_engine (cs : List Host.Cell) : (s.storeCells cs).engine = s.engine := rfl
@[simp] theorem State.storeCells_control (cs : List Host.Cell) : (s.storeCells cs).control = s.control := rfl
@[simp] theorem State.storeCells_common (cs : List Host.Cell) : (s.storeCells cs).common = s.common := rfl
@[simp] theorem State.storeCells_command (cs : List Host.Cell) : (s.storeCells cs).command = s.command := rfl
@[simp] theorem State.storeCells_notices (cs : List Host.Cell) : (s.storeCells cs).notices = s.notices := rfl
@[simp] theorem State.storeCells_flags (cs : List Host.Cell) : (s.storeCells cs).flags = s.flags := rfl
@[simp] theorem State.storeCells_messages (cs : List Host.Cell) : (s.storeCells cs).messages = s.messages := rfl
@[simp] theorem State.storeCells_probe (cs : List Host.Cell) : (s.storeCells cs).probe = s.probe := rfl
@[simp] theorem State.storeCells_readValue (cs : List Host.Cell) : (s.storeCells cs).readValue = s.readValue := rfl
@[simp] theorem State.storeCells_ctxs (cs : List Host.Cell) : (s.storeCells cs).ctxs = s.ctxs := rfl
@[simp] theorem State.storeCells_lanes (cs : List Host.Cell) : (s.storeCells cs).lanes = s.lanes := rfl
@[simp] theorem State.storeCells_cache (cs : List Host.Cell) : (s.storeCells cs).cache = s.cache := rfl
@[simp] theorem State.storeCells_lastUse (cs : List Host.Cell) : (s.storeCells cs).lastUse = s.lastUse := rfl
@[simp] theorem State.storeCells_lots (cs : List Host.Cell) : (s.storeCells cs).lots = s.lots := rfl
@[simp] theorem State.storeCells_merge (cs : List Host.Cell) : (s.storeCells cs).merge = s.merge := rfl
@[simp] theorem State.storeCells_closeQ (cs : List Host.Cell) : (s.storeCells cs).closeQ = s.closeQ := rfl
@[simp] theorem State.storeCells_closeUnit (cs : List Host.Cell) : (s.storeCells cs).closeUnit = s.closeUnit := rfl
@[simp] theorem State.storeCells_scan (cs : List Host.Cell) : (s.storeCells cs).scan = s.scan := rfl
@[simp] theorem State.storeCells_second (cs : List Host.Cell) : (s.storeCells cs).second = s.second := rfl
@[simp] theorem State.storeCells_mem (cs : List Host.Cell) : (s.storeCells cs).mem = Mem.writeCells s.mem cs := rfl
@[simp] theorem State.storeCells_past (cs : List Host.Cell) : (s.storeCells cs).past = s.past ++ s.replaced cs := rfl
@[simp] theorem State.storeCells_pending (cs : List Host.Cell) : (s.storeCells cs).pending = s.pending := rfl

/-! ### State.setHandback -/

@[simp] theorem State.setHandback_engine (l : LaneId) : (s.setHandback l).engine = s.engine := rfl
@[simp] theorem State.setHandback_control (l : LaneId) : (s.setHandback l).control = s.control := rfl
@[simp] theorem State.setHandback_common (l : LaneId) : (s.setHandback l).common = s.common := rfl
@[simp] theorem State.setHandback_command (l : LaneId) : (s.setHandback l).command = s.command := rfl
@[simp] theorem State.setHandback_notices (l : LaneId) : (s.setHandback l).notices = modAt s.notices l fun n => { n with handback := true } := rfl
@[simp] theorem State.setHandback_flags (l : LaneId) : (s.setHandback l).flags = s.flags := rfl
@[simp] theorem State.setHandback_messages (l : LaneId) : (s.setHandback l).messages = s.messages := rfl
@[simp] theorem State.setHandback_probe (l : LaneId) : (s.setHandback l).probe = s.probe := rfl
@[simp] theorem State.setHandback_readValue (l : LaneId) : (s.setHandback l).readValue = s.readValue := rfl
@[simp] theorem State.setHandback_ctxs (l : LaneId) : (s.setHandback l).ctxs = s.ctxs := rfl
@[simp] theorem State.setHandback_lanes (l : LaneId) : (s.setHandback l).lanes = s.lanes := rfl
@[simp] theorem State.setHandback_cache (l : LaneId) : (s.setHandback l).cache = s.cache := rfl
@[simp] theorem State.setHandback_lastUse (l : LaneId) : (s.setHandback l).lastUse = s.lastUse := rfl
@[simp] theorem State.setHandback_lots (l : LaneId) : (s.setHandback l).lots = s.lots := rfl
@[simp] theorem State.setHandback_merge (l : LaneId) : (s.setHandback l).merge = s.merge := rfl
@[simp] theorem State.setHandback_closeQ (l : LaneId) : (s.setHandback l).closeQ = s.closeQ := rfl
@[simp] theorem State.setHandback_closeUnit (l : LaneId) : (s.setHandback l).closeUnit = s.closeUnit := rfl
@[simp] theorem State.setHandback_scan (l : LaneId) : (s.setHandback l).scan = s.scan := rfl
@[simp] theorem State.setHandback_second (l : LaneId) : (s.setHandback l).second = s.second := rfl
@[simp] theorem State.setHandback_mem (l : LaneId) : (s.setHandback l).mem = s.mem := rfl
@[simp] theorem State.setHandback_past (l : LaneId) : (s.setHandback l).past = s.past := rfl
@[simp] theorem State.setHandback_pending (l : LaneId) : (s.setHandback l).pending = s.pending := rfl

/-! ### State.setClose -/

@[simp] theorem State.setClose_engine (l : LaneId) : (s.setClose l).engine = s.engine := rfl
@[simp] theorem State.setClose_control (l : LaneId) : (s.setClose l).control = s.control := rfl
@[simp] theorem State.setClose_common (l : LaneId) : (s.setClose l).common = s.common := rfl
@[simp] theorem State.setClose_command (l : LaneId) : (s.setClose l).command = s.command := rfl
@[simp] theorem State.setClose_notices (l : LaneId) : (s.setClose l).notices = modAt s.notices l fun n => { n with close := true } := rfl
@[simp] theorem State.setClose_flags (l : LaneId) : (s.setClose l).flags = s.flags := rfl
@[simp] theorem State.setClose_messages (l : LaneId) : (s.setClose l).messages = s.messages := rfl
@[simp] theorem State.setClose_probe (l : LaneId) : (s.setClose l).probe = s.probe := rfl
@[simp] theorem State.setClose_readValue (l : LaneId) : (s.setClose l).readValue = s.readValue := rfl
@[simp] theorem State.setClose_ctxs (l : LaneId) : (s.setClose l).ctxs = s.ctxs := rfl
@[simp] theorem State.setClose_lanes (l : LaneId) : (s.setClose l).lanes = s.lanes := rfl
@[simp] theorem State.setClose_cache (l : LaneId) : (s.setClose l).cache = s.cache := rfl
@[simp] theorem State.setClose_lastUse (l : LaneId) : (s.setClose l).lastUse = s.lastUse := rfl
@[simp] theorem State.setClose_lots (l : LaneId) : (s.setClose l).lots = s.lots := rfl
@[simp] theorem State.setClose_merge (l : LaneId) : (s.setClose l).merge = s.merge := rfl
@[simp] theorem State.setClose_closeQ (l : LaneId) : (s.setClose l).closeQ = s.closeQ := rfl
@[simp] theorem State.setClose_closeUnit (l : LaneId) : (s.setClose l).closeUnit = s.closeUnit := rfl
@[simp] theorem State.setClose_scan (l : LaneId) : (s.setClose l).scan = s.scan := rfl
@[simp] theorem State.setClose_second (l : LaneId) : (s.setClose l).second = s.second := rfl
@[simp] theorem State.setClose_mem (l : LaneId) : (s.setClose l).mem = s.mem := rfl
@[simp] theorem State.setClose_past (l : LaneId) : (s.setClose l).past = s.past := rfl
@[simp] theorem State.setClose_pending (l : LaneId) : (s.setClose l).pending = s.pending := rfl

/-! ### State.setAlarm -/

@[simp] theorem State.setAlarm_engine (l : LaneId) : (s.setAlarm l).engine = s.engine := rfl
@[simp] theorem State.setAlarm_control (l : LaneId) : (s.setAlarm l).control = s.control := rfl
@[simp] theorem State.setAlarm_common (l : LaneId) : (s.setAlarm l).common = s.common := rfl
@[simp] theorem State.setAlarm_command (l : LaneId) : (s.setAlarm l).command = s.command := rfl
@[simp] theorem State.setAlarm_notices (l : LaneId) : (s.setAlarm l).notices = modAt s.notices l fun n => { n with alarm := true } := rfl
@[simp] theorem State.setAlarm_flags (l : LaneId) : (s.setAlarm l).flags = s.flags := rfl
@[simp] theorem State.setAlarm_messages (l : LaneId) : (s.setAlarm l).messages = s.messages := rfl
@[simp] theorem State.setAlarm_probe (l : LaneId) : (s.setAlarm l).probe = s.probe := rfl
@[simp] theorem State.setAlarm_readValue (l : LaneId) : (s.setAlarm l).readValue = s.readValue := rfl
@[simp] theorem State.setAlarm_ctxs (l : LaneId) : (s.setAlarm l).ctxs = s.ctxs := rfl
@[simp] theorem State.setAlarm_lanes (l : LaneId) : (s.setAlarm l).lanes = s.lanes := rfl
@[simp] theorem State.setAlarm_cache (l : LaneId) : (s.setAlarm l).cache = s.cache := rfl
@[simp] theorem State.setAlarm_lastUse (l : LaneId) : (s.setAlarm l).lastUse = s.lastUse := rfl
@[simp] theorem State.setAlarm_lots (l : LaneId) : (s.setAlarm l).lots = s.lots := rfl
@[simp] theorem State.setAlarm_merge (l : LaneId) : (s.setAlarm l).merge = s.merge := rfl
@[simp] theorem State.setAlarm_closeQ (l : LaneId) : (s.setAlarm l).closeQ = s.closeQ := rfl
@[simp] theorem State.setAlarm_closeUnit (l : LaneId) : (s.setAlarm l).closeUnit = s.closeUnit := rfl
@[simp] theorem State.setAlarm_scan (l : LaneId) : (s.setAlarm l).scan = s.scan := rfl
@[simp] theorem State.setAlarm_second (l : LaneId) : (s.setAlarm l).second = s.second := rfl
@[simp] theorem State.setAlarm_mem (l : LaneId) : (s.setAlarm l).mem = s.mem := rfl
@[simp] theorem State.setAlarm_past (l : LaneId) : (s.setAlarm l).past = s.past := rfl
@[simp] theorem State.setAlarm_pending (l : LaneId) : (s.setAlarm l).pending = s.pending := rfl

/-! ### State.setFault -/

@[simp] theorem State.setFault_engine (l : LaneId) : (s.setFault l).engine = s.engine := rfl
@[simp] theorem State.setFault_control (l : LaneId) : (s.setFault l).control = s.control := rfl
@[simp] theorem State.setFault_common (l : LaneId) : (s.setFault l).common = s.common := rfl
@[simp] theorem State.setFault_command (l : LaneId) : (s.setFault l).command = s.command := rfl
@[simp] theorem State.setFault_notices (l : LaneId) : (s.setFault l).notices = modAt s.notices l fun n => { n with fault := true } := rfl
@[simp] theorem State.setFault_flags (l : LaneId) : (s.setFault l).flags = s.flags := rfl
@[simp] theorem State.setFault_messages (l : LaneId) : (s.setFault l).messages = s.messages := rfl
@[simp] theorem State.setFault_probe (l : LaneId) : (s.setFault l).probe = s.probe := rfl
@[simp] theorem State.setFault_readValue (l : LaneId) : (s.setFault l).readValue = s.readValue := rfl
@[simp] theorem State.setFault_ctxs (l : LaneId) : (s.setFault l).ctxs = s.ctxs := rfl
@[simp] theorem State.setFault_lanes (l : LaneId) : (s.setFault l).lanes = s.lanes := rfl
@[simp] theorem State.setFault_cache (l : LaneId) : (s.setFault l).cache = s.cache := rfl
@[simp] theorem State.setFault_lastUse (l : LaneId) : (s.setFault l).lastUse = s.lastUse := rfl
@[simp] theorem State.setFault_lots (l : LaneId) : (s.setFault l).lots = s.lots := rfl
@[simp] theorem State.setFault_merge (l : LaneId) : (s.setFault l).merge = s.merge := rfl
@[simp] theorem State.setFault_closeQ (l : LaneId) : (s.setFault l).closeQ = s.closeQ := rfl
@[simp] theorem State.setFault_closeUnit (l : LaneId) : (s.setFault l).closeUnit = s.closeUnit := rfl
@[simp] theorem State.setFault_scan (l : LaneId) : (s.setFault l).scan = s.scan := rfl
@[simp] theorem State.setFault_second (l : LaneId) : (s.setFault l).second = s.second := rfl
@[simp] theorem State.setFault_mem (l : LaneId) : (s.setFault l).mem = s.mem := rfl
@[simp] theorem State.setFault_past (l : LaneId) : (s.setFault l).past = s.past := rfl
@[simp] theorem State.setFault_pending (l : LaneId) : (s.setFault l).pending = s.pending := rfl

/-! ### State.refuse -/

@[simp] theorem State.refuse_engine : (s.refuse).engine = s.engine := rfl
@[simp] theorem State.refuse_control : (s.refuse).control = s.control := rfl
@[simp] theorem State.refuse_common : (s.refuse).common = s.common := rfl
@[simp] theorem State.refuse_command : (s.refuse).command = s.command := rfl
@[simp] theorem State.refuse_notices : (s.refuse).notices = s.notices := rfl
@[simp] theorem State.refuse_flags : (s.refuse).flags = { s.flags with refused := true } := rfl
@[simp] theorem State.refuse_messages : (s.refuse).messages = s.messages := rfl
@[simp] theorem State.refuse_probe : (s.refuse).probe = s.probe := rfl
@[simp] theorem State.refuse_readValue : (s.refuse).readValue = s.readValue := rfl
@[simp] theorem State.refuse_ctxs : (s.refuse).ctxs = s.ctxs := rfl
@[simp] theorem State.refuse_lanes : (s.refuse).lanes = s.lanes := rfl
@[simp] theorem State.refuse_cache : (s.refuse).cache = s.cache := rfl
@[simp] theorem State.refuse_lastUse : (s.refuse).lastUse = s.lastUse := rfl
@[simp] theorem State.refuse_lots : (s.refuse).lots = s.lots := rfl
@[simp] theorem State.refuse_merge : (s.refuse).merge = s.merge := rfl
@[simp] theorem State.refuse_closeQ : (s.refuse).closeQ = s.closeQ := rfl
@[simp] theorem State.refuse_closeUnit : (s.refuse).closeUnit = s.closeUnit := rfl
@[simp] theorem State.refuse_scan : (s.refuse).scan = s.scan := rfl
@[simp] theorem State.refuse_second : (s.refuse).second = s.second := rfl
@[simp] theorem State.refuse_mem : (s.refuse).mem = s.mem := rfl
@[simp] theorem State.refuse_past : (s.refuse).past = s.past := rfl
@[simp] theorem State.refuse_pending : (s.refuse).pending = s.pending := rfl

/-! ### State.wakeContext -/

@[simp] theorem State.wakeContext_engine : (s.wakeContext).engine = s.engine := by rw [State.wakeContext]
@[simp] theorem State.wakeContext_control : (s.wakeContext).control = s.control := by rw [State.wakeContext]
@[simp] theorem State.wakeContext_common : (s.wakeContext).common = s.common := by rw [State.wakeContext]
@[simp] theorem State.wakeContext_command : (s.wakeContext).command = s.command := by rw [State.wakeContext]
@[simp] theorem State.wakeContext_notices : (s.wakeContext).notices = s.notices := by rw [State.wakeContext]
@[simp] theorem State.wakeContext_flags : (s.wakeContext).flags = s.flags := by rw [State.wakeContext]
@[simp] theorem State.wakeContext_messages : (s.wakeContext).messages = s.messages := by rw [State.wakeContext]
@[simp] theorem State.wakeContext_probe : (s.wakeContext).probe = s.probe := by rw [State.wakeContext]
@[simp] theorem State.wakeContext_readValue : (s.wakeContext).readValue = s.readValue := by rw [State.wakeContext]
@[simp] theorem State.wakeContext_ctxs : (s.wakeContext).ctxs = s.ctxs := by rw [State.wakeContext]
@[simp] theorem State.wakeContext_cache : (s.wakeContext).cache = s.cache := by rw [State.wakeContext]
@[simp] theorem State.wakeContext_lastUse : (s.wakeContext).lastUse = s.lastUse := by rw [State.wakeContext]
@[simp] theorem State.wakeContext_lots : (s.wakeContext).lots = s.lots := by rw [State.wakeContext]
@[simp] theorem State.wakeContext_merge : (s.wakeContext).merge = s.merge := by rw [State.wakeContext]
@[simp] theorem State.wakeContext_closeQ : (s.wakeContext).closeQ = s.closeQ := by rw [State.wakeContext]
@[simp] theorem State.wakeContext_closeUnit : (s.wakeContext).closeUnit = s.closeUnit := by rw [State.wakeContext]
@[simp] theorem State.wakeContext_scan : (s.wakeContext).scan = s.scan := by rw [State.wakeContext]
@[simp] theorem State.wakeContext_second : (s.wakeContext).second = s.second := by rw [State.wakeContext]
@[simp] theorem State.wakeContext_mem : (s.wakeContext).mem = s.mem := by rw [State.wakeContext]
@[simp] theorem State.wakeContext_past : (s.wakeContext).past = s.past := by rw [State.wakeContext]
@[simp] theorem State.wakeContext_pending : (s.wakeContext).pending = s.pending := by rw [State.wakeContext]

/-! ### State.wakeRecipe -/

@[simp] theorem State.wakeRecipe_engine : (s.wakeRecipe).engine = s.engine := by rw [State.wakeRecipe]
@[simp] theorem State.wakeRecipe_control : (s.wakeRecipe).control = s.control := by rw [State.wakeRecipe]
@[simp] theorem State.wakeRecipe_common : (s.wakeRecipe).common = s.common := by rw [State.wakeRecipe]
@[simp] theorem State.wakeRecipe_command : (s.wakeRecipe).command = s.command := by rw [State.wakeRecipe]
@[simp] theorem State.wakeRecipe_notices : (s.wakeRecipe).notices = s.notices := by rw [State.wakeRecipe]
@[simp] theorem State.wakeRecipe_flags : (s.wakeRecipe).flags = s.flags := by rw [State.wakeRecipe]
@[simp] theorem State.wakeRecipe_messages : (s.wakeRecipe).messages = s.messages := by rw [State.wakeRecipe]
@[simp] theorem State.wakeRecipe_probe : (s.wakeRecipe).probe = s.probe := by rw [State.wakeRecipe]
@[simp] theorem State.wakeRecipe_readValue : (s.wakeRecipe).readValue = s.readValue := by rw [State.wakeRecipe]
@[simp] theorem State.wakeRecipe_ctxs : (s.wakeRecipe).ctxs = s.ctxs := by rw [State.wakeRecipe]
@[simp] theorem State.wakeRecipe_cache : (s.wakeRecipe).cache = s.cache := by rw [State.wakeRecipe]
@[simp] theorem State.wakeRecipe_lastUse : (s.wakeRecipe).lastUse = s.lastUse := by rw [State.wakeRecipe]
@[simp] theorem State.wakeRecipe_lots : (s.wakeRecipe).lots = s.lots := by rw [State.wakeRecipe]
@[simp] theorem State.wakeRecipe_merge : (s.wakeRecipe).merge = s.merge := by rw [State.wakeRecipe]
@[simp] theorem State.wakeRecipe_closeQ : (s.wakeRecipe).closeQ = s.closeQ := by rw [State.wakeRecipe]
@[simp] theorem State.wakeRecipe_closeUnit : (s.wakeRecipe).closeUnit = s.closeUnit := by rw [State.wakeRecipe]
@[simp] theorem State.wakeRecipe_scan : (s.wakeRecipe).scan = s.scan := by rw [State.wakeRecipe]
@[simp] theorem State.wakeRecipe_second : (s.wakeRecipe).second = s.second := by rw [State.wakeRecipe]
@[simp] theorem State.wakeRecipe_mem : (s.wakeRecipe).mem = s.mem := by rw [State.wakeRecipe]
@[simp] theorem State.wakeRecipe_past : (s.wakeRecipe).past = s.past := by rw [State.wakeRecipe]
@[simp] theorem State.wakeRecipe_pending : (s.wakeRecipe).pending = s.pending := by rw [State.wakeRecipe]

/-! ### State.readback -/

@[simp] theorem State.readback_engine (c : CmdCode) (l : LaneId) (o : Outcome) : (s.readback c l o).engine = s.engine := rfl
@[simp] theorem State.readback_control (c : CmdCode) (l : LaneId) (o : Outcome) : (s.readback c l o).control = s.control := rfl
@[simp] theorem State.readback_common (c : CmdCode) (l : LaneId) (o : Outcome) : (s.readback c l o).common = s.common := rfl
@[simp] theorem State.readback_command (c : CmdCode) (l : LaneId) (o : Outcome) : (s.readback c l o).command = ⟨c, l, o, .none⟩ := rfl
@[simp] theorem State.readback_notices (c : CmdCode) (l : LaneId) (o : Outcome) : (s.readback c l o).notices = s.notices := rfl
@[simp] theorem State.readback_flags (c : CmdCode) (l : LaneId) (o : Outcome) : (s.readback c l o).flags = s.flags := rfl
@[simp] theorem State.readback_messages (c : CmdCode) (l : LaneId) (o : Outcome) : (s.readback c l o).messages = s.messages := rfl
@[simp] theorem State.readback_probe (c : CmdCode) (l : LaneId) (o : Outcome) : (s.readback c l o).probe = s.probe := rfl
@[simp] theorem State.readback_readValue (c : CmdCode) (l : LaneId) (o : Outcome) : (s.readback c l o).readValue = s.readValue := rfl
@[simp] theorem State.readback_ctxs (c : CmdCode) (l : LaneId) (o : Outcome) : (s.readback c l o).ctxs = s.ctxs := rfl
@[simp] theorem State.readback_lanes (c : CmdCode) (l : LaneId) (o : Outcome) : (s.readback c l o).lanes = s.lanes := rfl
@[simp] theorem State.readback_cache (c : CmdCode) (l : LaneId) (o : Outcome) : (s.readback c l o).cache = s.cache := rfl
@[simp] theorem State.readback_lastUse (c : CmdCode) (l : LaneId) (o : Outcome) : (s.readback c l o).lastUse = s.lastUse := rfl
@[simp] theorem State.readback_lots (c : CmdCode) (l : LaneId) (o : Outcome) : (s.readback c l o).lots = s.lots := rfl
@[simp] theorem State.readback_merge (c : CmdCode) (l : LaneId) (o : Outcome) : (s.readback c l o).merge = s.merge := rfl
@[simp] theorem State.readback_closeQ (c : CmdCode) (l : LaneId) (o : Outcome) : (s.readback c l o).closeQ = s.closeQ := rfl
@[simp] theorem State.readback_closeUnit (c : CmdCode) (l : LaneId) (o : Outcome) : (s.readback c l o).closeUnit = s.closeUnit := rfl
@[simp] theorem State.readback_scan (c : CmdCode) (l : LaneId) (o : Outcome) : (s.readback c l o).scan = s.scan := rfl
@[simp] theorem State.readback_second (c : CmdCode) (l : LaneId) (o : Outcome) : (s.readback c l o).second = s.second := rfl
@[simp] theorem State.readback_mem (c : CmdCode) (l : LaneId) (o : Outcome) : (s.readback c l o).mem = s.mem := rfl
@[simp] theorem State.readback_past (c : CmdCode) (l : LaneId) (o : Outcome) : (s.readback c l o).past = s.past := rfl
@[simp] theorem State.readback_pending (c : CmdCode) (l : LaneId) (o : Outcome) : (s.readback c l o).pending = s.pending := rfl

/-! ### State.progressing -/

@[simp] theorem State.progressing_engine (c : CmdCode) (l : LaneId) (p : CmdProgress) : (s.progressing c l p).engine = s.engine := rfl
@[simp] theorem State.progressing_control (c : CmdCode) (l : LaneId) (p : CmdProgress) : (s.progressing c l p).control = s.control := rfl
@[simp] theorem State.progressing_common (c : CmdCode) (l : LaneId) (p : CmdProgress) : (s.progressing c l p).common = s.common := rfl
@[simp] theorem State.progressing_command (c : CmdCode) (l : LaneId) (p : CmdProgress) : (s.progressing c l p).command = ⟨c, l, .pending, p⟩ := rfl
@[simp] theorem State.progressing_notices (c : CmdCode) (l : LaneId) (p : CmdProgress) : (s.progressing c l p).notices = s.notices := rfl
@[simp] theorem State.progressing_flags (c : CmdCode) (l : LaneId) (p : CmdProgress) : (s.progressing c l p).flags = s.flags := rfl
@[simp] theorem State.progressing_messages (c : CmdCode) (l : LaneId) (p : CmdProgress) : (s.progressing c l p).messages = s.messages := rfl
@[simp] theorem State.progressing_probe (c : CmdCode) (l : LaneId) (p : CmdProgress) : (s.progressing c l p).probe = s.probe := rfl
@[simp] theorem State.progressing_readValue (c : CmdCode) (l : LaneId) (p : CmdProgress) : (s.progressing c l p).readValue = s.readValue := rfl
@[simp] theorem State.progressing_ctxs (c : CmdCode) (l : LaneId) (p : CmdProgress) : (s.progressing c l p).ctxs = s.ctxs := rfl
@[simp] theorem State.progressing_lanes (c : CmdCode) (l : LaneId) (p : CmdProgress) : (s.progressing c l p).lanes = s.lanes := rfl
@[simp] theorem State.progressing_cache (c : CmdCode) (l : LaneId) (p : CmdProgress) : (s.progressing c l p).cache = s.cache := rfl
@[simp] theorem State.progressing_lastUse (c : CmdCode) (l : LaneId) (p : CmdProgress) : (s.progressing c l p).lastUse = s.lastUse := rfl
@[simp] theorem State.progressing_lots (c : CmdCode) (l : LaneId) (p : CmdProgress) : (s.progressing c l p).lots = s.lots := rfl
@[simp] theorem State.progressing_merge (c : CmdCode) (l : LaneId) (p : CmdProgress) : (s.progressing c l p).merge = s.merge := rfl
@[simp] theorem State.progressing_closeQ (c : CmdCode) (l : LaneId) (p : CmdProgress) : (s.progressing c l p).closeQ = s.closeQ := rfl
@[simp] theorem State.progressing_closeUnit (c : CmdCode) (l : LaneId) (p : CmdProgress) : (s.progressing c l p).closeUnit = s.closeUnit := rfl
@[simp] theorem State.progressing_scan (c : CmdCode) (l : LaneId) (p : CmdProgress) : (s.progressing c l p).scan = s.scan := rfl
@[simp] theorem State.progressing_second (c : CmdCode) (l : LaneId) (p : CmdProgress) : (s.progressing c l p).second = s.second := rfl
@[simp] theorem State.progressing_mem (c : CmdCode) (l : LaneId) (p : CmdProgress) : (s.progressing c l p).mem = s.mem := rfl
@[simp] theorem State.progressing_past (c : CmdCode) (l : LaneId) (p : CmdProgress) : (s.progressing c l p).past = s.past := rfl
@[simp] theorem State.progressing_pending (c : CmdCode) (l : LaneId) (p : CmdProgress) : (s.progressing c l p).pending = s.pending := rfl

/-! ### State.dispose -/

@[simp] theorem State.dispose_engine (m : Merge) (code : Byte) : (s.dispose m code).engine = s.engine := rfl
@[simp] theorem State.dispose_control (m : Merge) (code : Byte) : (s.dispose m code).control = s.control := rfl
@[simp] theorem State.dispose_common (m : Merge) (code : Byte) : (s.dispose m code).common = s.common := rfl
@[simp] theorem State.dispose_command (m : Merge) (code : Byte) : (s.dispose m code).command = s.command := rfl
@[simp] theorem State.dispose_notices (m : Merge) (code : Byte) : (s.dispose m code).notices = s.notices := rfl
@[simp] theorem State.dispose_flags (m : Merge) (code : Byte) : (s.dispose m code).flags = s.flags := rfl
@[simp] theorem State.dispose_messages (m : Merge) (code : Byte) : (s.dispose m code).messages = s.messages := rfl
@[simp] theorem State.dispose_probe (m : Merge) (code : Byte) : (s.dispose m code).probe = s.probe := rfl
@[simp] theorem State.dispose_readValue (m : Merge) (code : Byte) : (s.dispose m code).readValue = s.readValue := rfl
@[simp] theorem State.dispose_ctxs (m : Merge) (code : Byte) : (s.dispose m code).ctxs = s.ctxs := rfl
@[simp] theorem State.dispose_lanes (m : Merge) (code : Byte) : (s.dispose m code).lanes = s.lanes := rfl
@[simp] theorem State.dispose_cache (m : Merge) (code : Byte) : (s.dispose m code).cache = s.cache := rfl
@[simp] theorem State.dispose_lastUse (m : Merge) (code : Byte) : (s.dispose m code).lastUse = s.lastUse := rfl
@[simp] theorem State.dispose_lots (m : Merge) (code : Byte) : (s.dispose m code).lots = s.lots := rfl
@[simp] theorem State.dispose_merge (m : Merge) (code : Byte) : (s.dispose m code).merge = some { m with phase := .disposition code } := rfl
@[simp] theorem State.dispose_closeQ (m : Merge) (code : Byte) : (s.dispose m code).closeQ = s.closeQ := rfl
@[simp] theorem State.dispose_closeUnit (m : Merge) (code : Byte) : (s.dispose m code).closeUnit = s.closeUnit := rfl
@[simp] theorem State.dispose_scan (m : Merge) (code : Byte) : (s.dispose m code).scan = s.scan := rfl
@[simp] theorem State.dispose_second (m : Merge) (code : Byte) : (s.dispose m code).second = s.second := rfl
@[simp] theorem State.dispose_mem (m : Merge) (code : Byte) : (s.dispose m code).mem = s.mem := rfl
@[simp] theorem State.dispose_past (m : Merge) (code : Byte) : (s.dispose m code).past = s.past := rfl
@[simp] theorem State.dispose_pending (m : Merge) (code : Byte) : (s.dispose m code).pending = s.pending := rfl

/-! ### What an unfinished record brings back -/

@[simp] theorem Merge.modUndo_lane (f : CtxId → Undo → Undo) (m : Merge) : (m.modUndo f).lane = m.lane := rfl
@[simp] theorem Merge.modUndo_half (f : CtxId → Undo → Undo) (m : Merge) : (m.modUndo f).half = m.half := rfl
@[simp] theorem Merge.modUndo_index (f : CtxId → Undo → Undo) (m : Merge) : (m.modUndo f).index = m.index := rfl
@[simp] theorem Merge.modUndo_bytes (f : CtxId → Undo → Undo) (m : Merge) : (m.modUndo f).bytes = m.bytes := rfl
@[simp] theorem Merge.modUndo_disps (f : CtxId → Undo → Undo) (m : Merge) : (m.modUndo f).disps = m.disps := rfl
@[simp] theorem Merge.modUndo_ctx (f : CtxId → Undo → Undo) (m : Merge) : (m.modUndo f).ctx = m.ctx := rfl
@[simp] theorem Merge.modUndo_phase (f : CtxId → Undo → Undo) (m : Merge) : (m.modUndo f).phase = m.phase := rfl
@[simp] theorem Ctx.undone_lastTouch (u : Undo) (c : Ctx) : (c.undone u).lastTouch = u.lastTouch := rfl
@[simp] theorem Ctx.undone_firstTouch (u : Undo) (c : Ctx) : (c.undone u).firstTouch = u.firstTouch := rfl
@[simp] theorem Ctx.undone_idleCount (u : Undo) (c : Ctx) : (c.undone u).idleCount = u.idleCount := rfl

/-! ### Tables -/

theorem modAt_get {α : Type} {n : Nat} (v : Vector α n) (i : Fin n) (j : Nat) (hj : j < n) (f : α → α) :
    (modAt v i f)[j] = if j = i.val then f v[i.val] else v[j] := by
  simp only [modAt, Vector.getElem_set, Fin.getElem_fin]
  by_cases h : j = i.val
  · simp [h]
  · simp [h, Ne.symm h]

@[simp] theorem modAt_self {α : Type} {n : Nat} (v : Vector α n) (i : Fin n) (f : α → α) :
    (modAt v i f)[i.val] = f v[i.val] := by
  simp [modAt_get]

theorem modAt_ne {α : Type} {n : Nat} (v : Vector α n) (i j : Fin n) (f : α → α) (h : j ≠ i) :
    (modAt v i f)[j.val] = v[j.val] := by
  simp [modAt_get, Fin.val_ne_of_ne h]

@[simp] theorem mapAll_get {α β : Type} {n : Nat} (v : Vector α n) (f : Fin n → α → β) (j : Nat) (hj : j < n) :
    (mapAll v f)[j] = f ⟨j, hj⟩ v[j] := by
  simp [mapAll]

end Sys2Proof.Machine
end

