-- ==== Sys2Proof/Laws/Memory.lean ====
section
/-!
SUPPORT. Collation memory: what a read gives after a write, and that every memory operation keeps the canonical form.
-/

namespace Sys2Proof.Machine

/-! ### The canonical form -/

theorem Mem.wfFrom_mono {lo lo' : Nat} (h : lo' ≤ lo) : ∀ {m : Mem}, Mem.wfFrom lo m = true → Mem.wfFrom lo' m = true
  | [], _ => rfl
  | (a, v) :: m, hm => by
    simp only [Mem.wfFrom, Bool.and_eq_true, decide_eq_true_eq] at hm ⊢
    exact ⟨⟨⟨by omega, hm.1.1.2⟩, hm.1.2⟩, hm.2⟩

theorem Mem.wfFrom_put {lo a : Nat} {v : Byte} (hlo : lo ≤ a) (ha : a < Config.memBytes) :
    ∀ {m : Mem}, Mem.wfFrom lo m = true → Mem.wfFrom lo (Mem.put m a v) = true := by
  intro m
  induction m generalizing lo with
  | nil =>
    intro _
    by_cases hv : v = Config.unwritten <;> simp [Mem.put, Mem.wfFrom, hv, hlo, ha]
  | cons c m ih =>
    obtain ⟨b, w⟩ := c
    intro hm
    have hm' := hm
    simp only [Mem.wfFrom, Bool.and_eq_true, decide_eq_true_eq] at hm
    obtain ⟨⟨⟨h1, h2⟩, h3⟩, h4⟩ := hm
    unfold Mem.put
    split
    · next hab =>
      split
      · exact hm'
      · next hv =>
        simp only [Mem.wfFrom, Bool.and_eq_true, decide_eq_true_eq]
        exact ⟨⟨⟨hlo, ha⟩, hv⟩, ⟨⟨by omega, h2⟩, h3⟩, h4⟩
    · split
      · next hab =>
        subst hab
        split
        · exact Mem.wfFrom_mono (by omega) h4
        · next hv =>
          simp only [Mem.wfFrom, Bool.and_eq_true, decide_eq_true_eq]
          exact ⟨⟨⟨hlo, ha⟩, hv⟩, h4⟩
      · simp only [Mem.wfFrom, Bool.and_eq_true, decide_eq_true_eq]
        exact ⟨⟨⟨h1, h2⟩, h3⟩, ih (by omega) h4⟩

/-- A one-byte write keeps the canonical form. -/
theorem Mem.wf_write {m : Mem} (a : Nat) (v : Byte) (h : m.wf = true) : (Mem.write m a v).wf = true := by
  unfold Mem.write
  split
  · next ha => exact Mem.wfFrom_put (Nat.zero_le a) ha h
  · exact h

/-- A write of several bytes keeps the canonical form. -/
theorem Mem.wf_writeBytes (vs : List Byte) :
    ∀ {m : Mem} (a : Nat), m.wf = true → (Mem.writeBytes m a vs).wf = true := by
  induction vs with
  | nil => intro m a h; exact h
  | cons v vs ih => intro m a h; exact ih (a + 1) (Mem.wf_write a v h)

/-- Writes of cells keep the canonical form. -/
theorem Mem.wf_writeCells (cs : List Host.Cell) : ∀ {m : Mem}, m.wf = true → (Mem.writeCells m cs).wf = true := by
  induction cs with
  | nil => intro m h; exact h
  | cons c cs ih => intro m h; exact ih (Mem.wf_write c.1 c.2 h)

/-! ### Reads after writes -/

theorem Mem.read_wfFrom_lt {lo a : Nat} (h : a < lo) : ∀ {m : Mem}, Mem.wfFrom lo m = true → Mem.read m a = Config.unwritten
  | [], _ => rfl
  | (b, v) :: m, hm => by
    simp only [Mem.wfFrom, Bool.and_eq_true, decide_eq_true_eq] at hm
    rw [Mem.read, if_neg (by omega), Mem.read_wfFrom_lt (by omega) hm.2]

theorem Mem.read_put_self {lo a : Nat} (v : Byte) :
    ∀ {m : Mem}, Mem.wfFrom lo m = true → Mem.read (Mem.put m a v) a = v := by
  intro m
  induction m generalizing lo with
  | nil => intro _; by_cases hv : v = Config.unwritten <;> simp [Mem.put, Mem.read, hv]
  | cons c m ih =>
    obtain ⟨b, w⟩ := c
    intro hm
    simp only [Mem.wfFrom, Bool.and_eq_true, decide_eq_true_eq] at hm
    obtain ⟨⟨⟨h1, h2⟩, h3⟩, h4⟩ := hm
    unfold Mem.put
    split
    · next hab =>
      split
      · next hv => rw [Mem.read, if_neg (by omega), Mem.read_wfFrom_lt (by omega) h4, hv]
      · simp [Mem.read]
    · split
      · next hab =>
        subst hab
        split
        · next hv => rw [Mem.read_wfFrom_lt (by omega) h4, hv]
        · simp [Mem.read]
      · next hab => rw [Mem.read, if_neg (Ne.symm hab), ih h4]

theorem Mem.read_put_ne {a b : Nat} (v : Byte) (h : b ≠ a) : ∀ m : Mem, Mem.read (Mem.put m a v) b = Mem.read m b
  | [] => by by_cases hv : v = Config.unwritten <;> simp [Mem.put, Mem.read, hv, Ne.symm h]
  | (c, w) :: m => by
    unfold Mem.put
    split
    · split
      · rfl
      · simp [Mem.read, Ne.symm h]
    · split
      · next hac => subst hac; split <;> simp [Mem.read, Ne.symm h]
      · simp [Mem.read, Mem.read_put_ne v h m]

/-- A one-byte write inside memory is read back. -/
theorem Mem.read_write_self {m : Mem} {a : Nat} (v : Byte) (h : m.wf = true) (ha : a < Config.memBytes) :
    Mem.read (Mem.write m a v) a = v := by
  rw [Mem.write, if_pos ha]
  exact Mem.read_put_self v h

/-- A one-byte write leaves every other offset alone. -/
theorem Mem.read_write_ne {a b : Nat} (v : Byte) (h : b ≠ a) (m : Mem) : Mem.read (Mem.write m a v) b = Mem.read m b := by
  unfold Mem.write
  split
  · exact Mem.read_put_ne v h m
  · rfl

/-- A write of several bytes leaves every offset outside them alone. -/
theorem Mem.read_writeBytes_out (vs : List Byte) :
    ∀ (m : Mem) (a b : Nat), (b < a ∨ a + vs.length ≤ b) → Mem.read (Mem.writeBytes m a vs) b = Mem.read m b := by
  induction vs with
  | nil => intro m a b _; rfl
  | cons v vs ih =>
    intro m a b h
    simp only [List.length_cons] at h
    rw [Mem.writeBytes, ih _ _ _ (by omega), Mem.read_write_ne v (by omega)]

/-- A write of several bytes inside memory is read back, byte for byte. -/
theorem Mem.read_writeBytes_in (vs : List Byte) :
    ∀ (m : Mem) (a i : Nat) (hi : i < vs.length), m.wf = true → a + vs.length ≤ Config.memBytes →
      Mem.read (Mem.writeBytes m a vs) (a + i) = vs[i] := by
  induction vs with
  | nil => intro m a i hi; simp at hi
  | cons v vs ih =>
    intro m a i hi hm ha
    simp only [List.length_cons] at hi ha
    rw [Mem.writeBytes]
    cases i with
    | zero =>
      rw [Mem.read_writeBytes_out _ _ _ _ (by omega), Nat.add_zero, Mem.read_write_self v hm (by omega)]
      rfl
    | succ i =>
      have e : a + (i + 1) = a + 1 + i := by omega
      rw [e, ih _ _ i (by omega) (Mem.wf_write a v hm) (by omega)]
      rfl

/-- Writes of cells leave every offset they do not name alone. -/
theorem Mem.read_writeCells_out (cs : List Host.Cell) :
    ∀ (m : Mem) (b : Nat), (∀ c ∈ cs, c.1 ≠ b) → Mem.read (Mem.writeCells m cs) b = Mem.read m b := by
  induction cs with
  | nil => intro m b _; rfl
  | cons c cs ih =>
    intro m b h
    rw [Mem.writeCells, ih _ _ (fun d hd => h d (List.mem_cons_of_mem c hd)),
      Mem.read_write_ne _ (Ne.symm (h c (List.mem_cons_self ..)))]

/-- Memory after reset is in the canonical form. -/
theorem Mem.wf_reset : State.reset.mem.wf = true := rfl

theorem State.store_wf {s : State} (a : Nat) (vs : List Byte) (h : s.mem.wf = true) : (s.store a vs).mem.wf = true :=
  Mem.wf_writeBytes vs a h

/-! ### Lengths of what the part writes -/

@[simp] theorem leBytes_length : ∀ n v, (leBytes n v).length = n
  | 0, _ => rfl
  | n + 1, v => by rw [leBytes, List.length_cons, leBytes_length n]

@[simp] theorem leInt_length (n : Nat) (v : Int) : (leInt n v).length = n := leBytes_length n _

@[simp] theorem handover_length (c s : Byte) (n : Nat) : (handover c s n).length = 4 := by simp [handover]

@[simp] theorem returnedWord_length (c : Byte) (n : Nat) : (returnedWord c n).length = 4 := by simp [returnedWord]

@[simp] theorem readBytes_length (m : Mem) : ∀ a n, (Mem.readBytes m a n).length = n
  | _, 0 => rfl
  | a, n + 1 => by rw [Mem.readBytes, List.length_cons, readBytes_length m (a + 1) n]

end Sys2Proof.Machine
end

