-- ==== Sys2Proof/Laws/Frames.lean ====
section
/-!
SUPPORT. The frame of every shared operation over the tables: none of them touches what `Base` lists (Engine Control, the
registers, the indicators, the messages held, the probe, the second counter, collation memory with the bytes replaced in it,
the queue of commands).
-/

namespace Sys2Proof.Machine

/-- The part of the state that no operation over the tables touches. -/
structure Base where
  engine    : Engine
  control   : Control
  common    : Word
  flags     : Indicators
  messages  : Nat
  probe     : Probe
  readValue : Word
  second    : Nat
  mem       : Mem
  past      : List Host.Cell
  pending   : List Instr

def State.base (s : State) : Base :=
  ⟨s.engine, s.control, s.common, s.flags, s.messages, s.probe, s.readValue, s.second, s.mem, s.past, s.pending⟩

/-- An update of tables alone leaves the base. -/
@[simp] theorem State.base_with (s : State) (command : LaneCommand) (notices : Vector LaneNotice 16) (ctxs : Vector Ctx 24)
    (lanes : Vector Lane 16) (cache : Vector CacheEntry 8) (lastUse : List EntryId) (lots : Vector Lot 8)
    (merge : Option Merge) (closeQ : List CloseItem) (closeUnit : ClosePhase) (scan : Scanner) :
    State.base { s with
      command := command, notices := notices, ctxs := ctxs, lanes := lanes, cache := cache, lastUse := lastUse
      lots := lots, merge := merge, closeQ := closeQ, closeUnit := closeUnit, scan := scan } = s.base := rfl

variable (s : State)

@[simp] theorem State.modCtx_base (k : CtxId) (f : Ctx → Ctx) : (s.modCtx k f).base = s.base := rfl
@[simp] theorem State.modLane_base (l : LaneId) (f : Lane → Lane) : (s.modLane l f).base = s.base := rfl
@[simp] theorem State.modEntry_base (e : EntryId) (f : CacheEntry → CacheEntry) :
    (s.modEntry e f).base = s.base := rfl
@[simp] theorem State.modLot_base (i : LotId) (f : Lot → Lot) : (s.modLot i f).base = s.base := rfl
@[simp] theorem State.setHandback_base (l : LaneId) : (s.setHandback l).base = s.base := rfl
@[simp] theorem State.setClose_base (l : LaneId) : (s.setClose l).base = s.base := rfl
@[simp] theorem State.setAlarm_base (l : LaneId) : (s.setAlarm l).base = s.base := rfl
@[simp] theorem State.setFault_base (l : LaneId) : (s.setFault l).base = s.base := rfl
@[simp] theorem State.laneFault_base (l : LaneId) (c : LaneFault) : (s.laneFault l c).base = s.base := rfl
@[simp] theorem State.wakeContext_base : (s.wakeContext).base = s.base := by rw [State.wakeContext]; rfl
@[simp] theorem State.wakeRecipe_base : (s.wakeRecipe).base = s.base := by rw [State.wakeRecipe]; rfl
@[simp] theorem State.wakeRecipeIf_base (b : Bool) : (s.wakeRecipeIf b).base = s.base := by
  unfold State.wakeRecipeIf
  repeat' split
  all_goals simp only [State.wakeRecipe_base]
@[simp] theorem State.startTrend_base (e : EntryId) : (s.startTrend e).base = s.base := rfl
@[simp] theorem State.pin_base (e : EntryId) : (s.pin e).base = s.base := rfl
@[simp] theorem State.releasePin_base (e : EntryId) : (s.releasePin e).base = s.base := by
  unfold State.releasePin
  repeat' split
  all_goals simp only [State.modEntry_base, State.wakeRecipe_base]
@[simp] theorem State.leaveWaiters_base (l : LaneId) :
    (s.leaveWaiters l).base = s.base := by rw [State.leaveWaiters]; rfl
@[simp] theorem State.joinWaiters_base (e : EntryId) (l : LaneId) : (s.joinWaiters e l).base = s.base := rfl
@[simp] theorem State.wakeLoading_base (e : EntryId) :
    (s.wakeLoading e).base = s.base := by rw [State.wakeLoading]; rfl
@[simp] theorem State.startLoad_base (e : EntryId) (n : Nat) (l : LaneId) : (s.startLoad e n l).base = s.base := rfl
@[simp] theorem State.installLoad_base (e : EntryId) (src : Nat → Byte) : (s.installLoad e src).base = s.base := by
  unfold State.installLoad
  repeat' split
  all_goals simp only [State.base_with, State.modEntry_base, State.wakeRecipe_base, State.wakeRecipeIf_base,
      State.wakeLoading_base]
@[simp] theorem State.finishLoad_base (e : EntryId) (src : Nat → Byte) :
    (s.finishLoad e src).base = { s.base with past := if s.readsAlone e then [] else s.past } := by
  show ({ (s.installLoad e src).base with past := if s.readsAlone e then [] else s.past } : Base) = _
  rw [State.installLoad_base]
@[simp] theorem State.flush_base : (s.flush).base = s.base := by
  unfold State.flush
  all_goals simp only [State.base_with, State.wakeRecipeIf_base]
@[simp] theorem State.kickSlot_base (k : CtxId) : (s.kickSlot k).base = s.base := by
  unfold State.kickSlot
  repeat' split
  all_goals simp only [State.modCtx_base]
@[simp] theorem State.addJob_base (k : CtxId) (j : SlotJob) : (s.addJob k j).base = s.base := by
  unfold State.addJob
  all_goals simp only [State.modCtx_base, State.kickSlot_base]
@[simp] theorem State.rewrite_base (k : CtxId) (why : RewriteFor) : (s.rewrite k why).base = s.base := by
  unfold State.rewrite
  all_goals simp only [State.addJob_base]
@[simp] theorem State.dropJob_base (k : CtxId) : (s.dropJob k).base = s.base := rfl
@[simp] theorem State.setHold_base (l : LaneId) : (s.setHold l).base = s.base := rfl
@[simp] theorem State.raiseEvents_base (l : LaneId) (r : Recipe) (evs : List Event) :
    (s.raiseEvents l r evs).base = s.base := by
  unfold State.raiseEvents
  repeat' split
  all_goals simp only [State.setAlarm_base, State.setHold_base]
@[simp] theorem State.closeTotals_base (k : CtxId) : (s.closeTotals k).base = s.base := by
  unfold State.closeTotals
  all_goals simp only [State.base_with, State.modLot_base, State.addJob_base]
@[simp] theorem State.closeTrend_base (k : CtxId) : (s.closeTrend k).base = s.base := by
  unfold State.closeTrend
  dsimp only
  repeat' split
  all_goals simp only [State.base_with, State.modCtx_base, State.modEntry_base, State.rewrite_base,
      State.raiseEvents_base, State.closeTotals_base]
@[simp] theorem State.closeRows_base (k : CtxId) : (s.closeRows k).base = s.base := by
  unfold State.closeRows
  repeat' split
  all_goals simp only [State.base_with, State.closeTrend_base]
@[simp] theorem State.beginCtxItem_base (k : CtxId) : (s.beginCtxItem k).base = s.base := by
  unfold State.beginCtxItem
  repeat' split
  all_goals simp only [State.base_with, State.closeRows_base]
@[simp] theorem State.beginLotItem_base (i : LotId) : (s.beginLotItem i).base = s.base := by
  unfold State.beginLotItem
  dsimp only
  repeat' split
  all_goals simp only [State.base_with, State.modLot_base, State.setAlarm_base,
      State.setHold_base]
@[simp] theorem State.serve_base : (s.serve).base = s.base := by
  unfold State.serve
  repeat' split
  all_goals simp only [State.beginCtxItem_base, State.beginLotItem_base]
@[simp] theorem State.nextItem_base : (s.nextItem).base = s.base := by
  unfold State.nextItem
  all_goals simp only [State.base_with, State.serve_base]
@[simp] theorem State.enqueue_base (i : CloseItem) : (s.enqueue i).base = s.base := by
  unfold State.enqueue
  all_goals simp only [State.base_with, State.serve_base]
@[simp] theorem State.closeContext_base (k : CtxId) (cause : CloseCause) (why : RewriteFor) :
    (s.closeContext k cause why).base = s.base := by
  unfold State.closeContext
  all_goals simp only [State.modCtx_base, State.modLane_base, State.rewrite_base, State.enqueue_base]
@[simp] theorem State.contextClosed_base (k : CtxId) : (s.contextClosed k).base = s.base := by
  unfold State.contextClosed
  all_goals simp only [State.modCtx_base, State.modLot_base, State.setClose_base, State.releasePin_base]
@[simp] theorem State.drainTrends_base : (s.drainTrends).base = s.base := by
  unfold State.drainTrends
  repeat' split
  all_goals simp only [State.base_with]
@[simp] theorem State.drainWindows_base : (s.drainWindows).base = s.base := by
  unfold State.drainWindows
  repeat' split
  all_goals simp only [State.base_with]
@[simp] theorem State.drainWork_base : (s.drainWork).base = s.base := by
  unfold State.drainWork
  repeat' split
  all_goals simp only [State.drainTrends_base, State.drainWindows_base]
@[simp] theorem State.issueLook_base (l : LaneId) (p : Bool) : (s.issueLook l p).base = s.base := rfl
@[simp] theorem State.issueAt_base (p : PassPos) : (s.issueAt p).base = s.base := by
  unfold State.issueAt
  repeat' split
  all_goals simp only [State.base_with, State.issueLook_base]
@[simp] theorem State.passOver_base (ps : List PassPos) : (s.passOver ps).base = s.base := by
  unfold State.passOver
  repeat' split
  all_goals simp only [State.base_with, State.issueAt_base]
@[simp] theorem State.startPass_base : (s.startPass).base = s.base := by
  unfold State.startPass
  all_goals simp only [State.passOver_base]
@[simp] theorem State.passNext_base (p : PassPos) : (s.passNext p).base = s.base := by
  unfold State.passNext
  dsimp only
  repeat' split
  all_goals simp only [State.base_with, State.passOver_base, State.startPass_base]
@[simp] theorem State.scanNowPart_base : (s.scanNowPart).base = s.base := by
  unfold State.scanNowPart
  repeat' split
  all_goals simp only [State.base_with, State.startPass_base]
@[simp] theorem State.timerExpires_base : (s.timerExpires).base = s.base := by
  unfold State.timerExpires
  repeat' split
  all_goals simp only [State.base_with, State.startPass_base]
@[simp] theorem State.chainLook_base (l : LaneId) : (s.chainLook l).base = s.base := by
  unfold State.chainLook
  repeat' split
  all_goals simp only [State.issueLook_base]
@[simp] theorem State.lookDone_base (l : LaneId) (p : Bool) : (s.lookDone l p).base = s.base := by
  unfold State.lookDone
  repeat' split
  all_goals simp only [State.passNext_base]
@[simp] theorem State.clearLook_base (l : LaneId) : (s.clearLook l).base = s.base := rfl
@[simp] theorem State.answerLook_base (l : LaneId) (k : Look) (p : LookPhase) :
    (s.answerLook l k p).base = s.base := rfl
@[simp] theorem State.lookAction_base (l : LaneId) (k : Look) (bad : Bool) :
    (s.lookAction l k bad).base = s.base := by
  unfold State.lookAction
  dsimp only
  repeat' split
  all_goals simp only [State.modLane_base, State.laneFault_base, State.lookDone_base, State.clearLook_base,
      State.answerLook_base]
@[simp] theorem State.lookAnswered_base (l : LaneId) (k : Look) : (s.lookAnswered l k).base = s.base := by
  unfold State.lookAnswered
  repeat' split
  all_goals simp only [State.modLane_base, State.setHandback_base, State.laneFault_base, State.chainLook_base,
      State.clearLook_base]
@[simp] theorem State.readback_base (c : CmdCode) (l : LaneId) (o : Outcome) : (s.readback c l o).base = s.base := rfl
@[simp] theorem State.progressing_base (c : CmdCode) (l : LaneId) (p : CmdProgress) :
    (s.progressing c l p).base = s.base := rfl
@[simp] theorem State.commandDone_base : (s.commandDone).base = s.base := rfl
@[simp] theorem State.dropWaiter_base (l : LaneId) : (s.dropWaiter l).base = s.base := by
  unfold State.dropWaiter
  all_goals simp only [State.wakeRecipeIf_base, State.leaveWaiters_base]
@[simp] theorem State.retireStep1_base (l : LaneId) : (s.retireStep1 l).base = s.base := by
  unfold State.retireStep1
  repeat' split
  all_goals simp only [State.modLane_base, State.closeContext_base, State.dropWaiter_base]
@[simp] theorem State.carryOut_base (l : LaneId) : (s.carryOut l).base = s.base := by
  unfold State.carryOut
  dsimp only
  repeat' split
  all_goals simp only [State.readback_base, State.progressing_base, State.retireStep1_base]
@[simp] theorem State.retireTaken_base (l : LaneId) : (s.retireTaken l).base = s.base := by
  unfold State.retireTaken
  repeat' split
  all_goals simp only [State.progressing_base, State.carryOut_base]
@[simp] theorem State.laneCommandTaken_base (c : CmdCode) (l : LaneId) : (s.laneCommandTaken c l).base = s.base := by
  unfold State.laneCommandTaken
  repeat' split
  all_goals simp only [State.modLane_base, State.readback_base, State.progressing_base, State.retireTaken_base]
@[simp] theorem State.enableLane_base (l : LaneId) (bad : Bool) (d : Descriptor) :
    (s.enableLane l bad d).base = s.base := by
  unfold State.enableLane
  repeat' split
  all_goals simp only [State.modLane_base, State.laneFault_base]
@[simp] theorem State.coldLane_base (l : LaneId) (bad : Bool) (d : Descriptor) :
    (s.coldLane l bad d).base = s.base := by
  unfold State.coldLane
  repeat' split
  all_goals simp only [State.modLane_base, State.laneFault_base]
@[simp] theorem State.finishReturn_base (l : LaneId) : (s.finishReturn l).base = s.base := by
  unfold State.finishReturn
  all_goals simp only [State.modLane_base, State.setHandback_base, State.chainLook_base]
@[simp] theorem State.returnWritten_base (l : LaneId) : (s.returnWritten l).base = s.base := by
  unfold State.returnWritten
  repeat' split
  all_goals simp only [State.modLane_base, State.rewrite_base, State.finishReturn_base]
@[simp] theorem State.dispose_base (m : Merge) (code : Byte) : (s.dispose m code).base = s.base := rfl
@[simp] theorem State.conclude_base (m : Merge) (w : Option Word) (code : Byte) :
    (s.conclude m w code).base = s.base := by
  cases w <;> rfl
@[simp] theorem State.awaitRewrite_base (m : Merge) (k : CtxId) (w : Option Word) (code : Byte) :
    (s.awaitRewrite m k w code).base = s.base := by
  unfold State.awaitRewrite
  all_goals simp only [State.base_with, State.rewrite_base]
@[simp] theorem State.evaluateMerge_base (m : Merge) (k : CtxId) (w : Option Word) (code : Byte) :
    (s.evaluateMerge m k w code).base = s.base := by
  unfold State.evaluateMerge
  dsimp only
  repeat' split
  all_goals simp only [State.modCtx_base, State.raiseEvents_base, State.conclude_base, State.awaitRewrite_base]
@[simp] theorem State.endMerge_base (m : Merge) : (s.endMerge m).base = s.base := by
  unfold State.endMerge
  repeat' split
  all_goals simp only [State.base_with, State.modCtx_base]
@[simp] theorem State.touchdownEnd_base (m : Merge) (k : CtxId) : (s.touchdownEnd m k).base = s.base := by
  unfold State.touchdownEnd
  repeat' split
  all_goals simp only [State.modCtx_base, State.dispose_base, State.evaluateMerge_base]
@[simp] theorem State.continueTouchdown_base (m : Merge) (k : CtxId) : (s.continueTouchdown m k).base = s.base := by
  unfold State.continueTouchdown
  repeat' split
  all_goals simp only [State.base_with, State.modCtx_base, State.touchdownEnd_base]
@[simp] theorem State.continueAdjust_base (m : Merge) (k : CtxId) : (s.continueAdjust m k).base = s.base := by
  unfold State.continueAdjust
  repeat' split
  all_goals simp only [State.base_with, State.modCtx_base, State.dispose_base, State.evaluateMerge_base]
@[simp] theorem State.continueMerge_base (m : Merge) (k : CtxId) : (s.continueMerge m k).base = s.base := by
  unfold State.continueMerge
  repeat' split
  all_goals simp only [State.continueTouchdown_base, State.continueAdjust_base]
@[simp] theorem State.grantLane_base (l : LaneId) : (s.grantLane l).base = s.base := by
  unfold State.grantLane
  repeat' split
  all_goals simp only [State.base_with, State.modCtx_base]
@[simp] theorem State.afterWriteback_base (m : Merge) (k : CtxId) (y : RowId) :
    (s.afterWriteback m k y).base = s.base := by
  unfold State.afterWriteback
  repeat' split
  all_goals simp only [State.base_with, State.modCtx_base, State.continueMerge_base]
@[simp] theorem State.acceptOpen_base (m : Merge) (k : CtxId) (e : EntryId) (lot : LotChoice) :
    (s.acceptOpen m k e lot).base = s.base := by
  unfold State.acceptOpen
  repeat' split
  all_goals simp only [State.base_with, State.modCtx_base, State.modLane_base, State.modLot_base, State.pin_base,
      State.rewrite_base]
@[simp] theorem State.leaveWaiting_base (m : Merge) (w : LaneState) : (s.leaveWaiting m w).base = s.base := by
  unfold State.leaveWaiting
  all_goals simp only [State.modLane_base, State.endMerge_base]
@[simp] theorem State.applyOpen_base (m : Merge) (d : OpenDecision) : (s.applyOpen m d).base = s.base := by
  unfold State.applyOpen
  repeat' split
  all_goals simp only [State.joinWaiters_base, State.startLoad_base, State.dispose_base, State.acceptOpen_base,
      State.leaveWaiting_base]
@[simp] theorem State.executeOpen_base (m : Merge) : (s.executeOpen m).base = s.base := by
  unfold State.executeOpen
  all_goals simp only [State.wakeRecipeIf_base, State.leaveWaiters_base, State.drainWork_base,
      State.applyOpen_base]
@[simp] theorem State.afterRewrite_base (k : CtxId) (why : RewriteFor) : (s.afterRewrite k why).base = s.base := by
  unfold State.afterRewrite
  repeat' split
  all_goals simp only [State.closeTotals_base, State.finishReturn_base, State.conclude_base]
@[simp] theorem State.expiryOver_base (k : CtxId) : (s.expiryOver k).base = s.base := rfl
@[simp] theorem State.assertIdle_base (k : CtxId) : (s.assertIdle k).base = s.base := by
  unfold State.assertIdle
  dsimp only
  repeat' split
  all_goals simp only [State.modCtx_base, State.rewrite_base, State.raiseEvents_base]
@[simp] theorem State.autoclose_base (k : CtxId) : (s.autoclose k).base = s.base := by
  unfold State.autoclose
  all_goals simp only [State.modCtx_base, State.closeContext_base]
@[simp] theorem State.expire_base (k : CtxId) : (s.expire k).base = s.base := by
  unfold State.expire
  repeat' split
  all_goals simp only [State.assertIdle_base, State.autoclose_base]

end Sys2Proof.Machine
end

