-- ==== Sys2Proof/Laws/Effects.lean ====
section
/-!
SUPPORT. What the shared operations over memory and messages do: stores, writes that stop where they stand, and the end of an
event that sets no notice; and the small facts about tables, slots, events and records that proofs of the commands cite.
-/

namespace Sys2Proof.Machine

/-- A write of several bytes is read back, each byte that lies inside memory. -/
theorem Mem.read_writeBytes_at (vs : List Byte) :
    ∀ (m : Mem) (a i : Nat), m.wf = true → i < vs.length → a + i < Config.memBytes →
      Mem.read (Mem.writeBytes m a vs) (a + i) = vs.getD i 0 := by
  induction vs with
  | nil => intro m a i _ hi; simp at hi
  | cons v vs ih =>
    intro m a i hm hi ha
    rw [Mem.writeBytes]
    cases i with
    | zero =>
      rw [Mem.read_writeBytes_out _ _ _ _ (by omega), Nat.add_zero, Mem.read_write_self v hm (by omega)]
      rfl
    | succ i =>
      rw [show a + (i + 1) = a + 1 + i by omega, ih _ _ i (Mem.wf_write a v hm) (by simpa using hi) (by omega)]
      rfl

/-- A store leaves memory as `Mem.storedAt` says. -/
theorem Mem.storedAt_writeBytes (m : Mem) (a : Nat) (vs : List Byte) : Mem.storedAt m (Mem.writeBytes m a vs) a vs :=
  ⟨fun hm i hi ha => Mem.read_writeBytes_at vs m a i hm hi ha, fun x hx => Mem.read_writeBytes_out vs m a x hx⟩

theorem Mem.writeCells_append (cs ds : List Host.Cell) :
    ∀ m : Mem, Mem.writeCells m (cs ++ ds) = Mem.writeCells (Mem.writeCells m cs) ds := by
  induction cs with
  | nil => intro m; rfl
  | cons c cs ih => intro m; exact ih _

/-- Writes that stop where they stand leave memory as `State.stopsWrites` says. -/
theorem State.stopsWrites_memStopped (s : State) (may : Host.Cell → Bool) (landed : List Host.Cell) :
    s.stopsWrites { s with mem := s.memStopped may landed } may landed := by
  refine ⟨fun a h => Mem.read_writeCells_out _ _ _ fun c hc => ?_, fun before after a v hl hc h ha hm => ?_⟩
  · obtain ⟨h1, h2⟩ := List.mem_filter.1 hc
    exact h c h1 h2
  · subst hl
    show Mem.read (Mem.writeCells s.mem _) a = v
    rw [List.filter_append, List.filter_cons_of_pos hc, Mem.writeCells_append, Mem.writeCells,
      Mem.read_writeCells_out _ _ _ fun c h' => h c (List.mem_filter.1 h').1 (List.mem_filter.1 h').2]
    exact Mem.read_write_self v (Mem.wf_writeCells _ hm) ha

/-- What `mixes` says, bit by bit. -/
theorem mixes_iff (old new v : Byte) :
    mixes old new v = true ↔ ∀ n < 8, v.getLsbD n = old.getLsbD n ∨ v.getLsbD n = new.getLsbD n := by
  unfold mixes
  rw [decide_eq_true_iff]
  constructor
  · intro h n _
    have hn := congrArg (·.getLsbD n) h
    simp only [BitVec.getLsbD_and, BitVec.getLsbD_xor] at hn
    revert hn
    cases v.getLsbD n <;> cases old.getLsbD n <;> cases new.getLsbD n <;> simp
  · intro h
    apply BitVec.eq_of_getLsbD_eq
    intro n hn
    have := h n hn
    simp only [BitVec.getLsbD_and, BitVec.getLsbD_xor]
    revert this
    cases v.getLsbD n <;> cases old.getLsbD n <;> cases new.getLsbD n <;> simp

/-- A byte in flight may land. -/
theorem lands_of_inFlight {s : State} {c : Host.Cell} (h : c ∈ s.inFlight) : s.lands c = true := by
  simp [State.lands, h]

/-- Of a hand-over word's byte, any mixture of its bits with those that stand may land. -/
theorem lands_of_word {s : State} {a : Nat} {new v : Byte} (h : (a, new) ∈ s.wordCells)
    (hb : mixes (Mem.read s.mem a) new v = true) : s.lands (a, v) = true := by
  unfold State.lands
  rw [Bool.or_eq_true, List.any_eq_true]
  exact Or.inr ⟨(a, new), h, by simp [hb]⟩

/-- With its disposition being written, a fault finds no record in merge whose write may land. -/
theorem undisposed_of {s : State} {m : Merge} {code : Byte} (h : s.merge = some m) (hp : m.phase = .disposition code) :
    s.undisposed = { s with merge := none } := by
  simp [State.undisposed, h, hp]

theorem undisposed_other {s : State} (h : ∀ m code, s.merge = some m → m.phase ≠ .disposition code) : s.undisposed = s := by
  unfold State.undisposed
  split
  · rename_i m hm
    split
    · rename_i code hp
      exact absurd hp (h m code hm)
    · rfl
  · rfl

/-- A store leaves memory as `State.stores` says. -/
theorem State.stores_store (s : State) (a : Nat) (bs : List Byte) : s.stores (s.store a bs) a bs :=
  ⟨Mem.storedAt_writeBytes s.mem a bs, rfl⟩

/-- An event that leaves the flags and the enables raises no message. -/
theorem announce_quiet (s t : State) (hn : t.notices = s.notices) (hc : t.control.ien = s.control.ien)
    (hd : t.flags.drained = s.flags.drained) (he : t.flags.engine = s.flags.engine) : announce s t = t := by
  have hfl : t.flagList = s.flagList := by simp [State.flagList, hn, hc, hd, he]
  have hz : ∀ l : List (Bool × Bool), (l.zip l).countP (fun p => !p.1.2 && p.2.2 && p.2.1) = 0 := by
    intro l
    induction l with
    | nil => rfl
    | cons a l ih => simp [List.zip, List.zipWith] at ih ⊢
  have hr : messagesRaised s t = 0 := by
    unfold messagesRaised
    split
    · simp only [newlySet, hfl]; exact hz _
    · simp [State.pend, hfl]
  cases t
  simp only [announce, hr]
  simp

/-- RUNNING and DRAINING are the run states in which the blocks work. -/
theorem working_of {s : State} (h : s.engine.run = .running ∨ s.engine.run = .draining) : s.working = true := by
  rcases h with h | h <;> simp [State.working, h]

/-- Outside DRAINING no drain work starts. -/
theorem drainWork_running {s : State} (h : s.engine.run = .running) : s.drainWork = s := by simp [State.drainWork, h]

/-- An event that ends is its state with the messages it leaves. -/
theorem announce_eq (s t : State) : announce s t = { t with messages := (announce s t).messages } := rfl

/-! ### Tables -/

theorem modAt_id {α : Type} {n : Nat} (v : Vector α n) (i : Fin n) : modAt v i (fun x => x) = v := by simp [modAt]

theorem modAt_modAt {α : Type} {n : Nat} (v : Vector α n) (i : Fin n) (f g : α → α) :
    modAt (modAt v i f) i g = modAt v i (fun x => g (f x)) := by simp [modAt]

theorem modAt_congr {α : Type} {n : Nat} (v : Vector α n) (i : Fin n) (f g : α → α) (h : f v[i] = g v[i]) :
    modAt v i f = modAt v i g := by
  unfold modAt
  rw [h]

theorem modAt_get_self {α : Type} {n : Nat} (v : Vector α n) (i : Fin n) (f : α → α) : (modAt v i f)[i] = f v[i] := by
  simp [modAt]

/-- The first index of a table that meets `p`. -/
theorem find_first (n : Nat) (p : Fin n → Bool) (i : Fin n) (h : p i = true) (h' : ∀ j < i, p j = false) :
    (List.finRange n).find? p = some i := by
  rw [List.find?_eq_some_iff_getElem]
  refine ⟨h, i.val, by simp, by simp, ?_⟩
  intro j hj
  simp only [List.getElem_finRange, Bool.not_eq_true']
  exact h' _ (by simpa [Fin.lt_def] using hj)

theorem find_none_of (n : Nat) (p : Fin n → Bool) (h : ∀ i, p i = false) : (List.finRange n).find? p = none := by simp [h]

/-! ### Slots, events, records, waiter sets -/

/-- The first write of a slot's head job changes the slot's phase alone. -/
theorem kickSlot_frame (s : State) (k : CtxId) :
    ∃ p, s.kickSlot k = s.modCtx k (fun c => { c with slotPhase := p }) := by
  have h0 : s = s.modCtx k (fun c => { c with slotPhase := s.ctxs[k].slotPhase }) := by
    conv_lhs => rw [show s = s.modCtx k (fun c => c) by unfold State.modCtx; rw [modAt_id]]
    unfold State.modCtx
    rw [modAt_congr]
    rfl
  unfold State.kickSlot
  split
  · split
    · exact ⟨s.ctxs[k].slotPhase, h0⟩
    · exact ⟨_, rfl⟩
  · exact ⟨s.ctxs[k].slotPhase, h0⟩

/-- A slot that no OPEN holds is not held. -/
theorem slotHeld_of_free {s : State} {k : CtxId} (h : s.slotFree k) : s.slotHeld k = false := by
  unfold State.slotHeld
  cases hm : s.merge with
  | none => rfl
  | some m =>
    have := h m hm
    simp only [MergePhase.holdsSlot]
    split
    · rename_i i k' hp
      rw [decide_eq_false_iff_not]
      rintro rfl
      exact this.2 i hp
    · rename_i k' hp
      rw [decide_eq_false_iff_not]
      rintro rfl
      exact this.1 hp
    · rfl

/-- With no write of the slot in flight and the slot not held, the head job's first write begins, as `State.startsNext` says. -/
theorem startsNext_kickSlot {u : State} {k : CtxId} (h1 : u.ctxs[k].slotPhase = none) (h : u.slotHeld k = false) :
    u.startsNext (u.kickSlot k) k := by
  unfold State.startsNext State.kickSlot
  rw [h1]
  cases hj : u.ctxs[k].jobs with
  | nil =>
    show u = u.modCtx k _
    conv_lhs => rw [show u = u.modCtx k (fun c => c) by unfold State.modCtx; rw [modAt_id]]
    unfold State.modCtx
    congr 1
    apply modAt_congr
    revert h1 hj
    generalize u.ctxs[k] = c
    intro h1 hj
    cases c
    simp only at h1 hj
    subst h1
    subst hj
    rfl
  | cons j js =>
    simp only [h]
    show u.modCtx k _ = u.modCtx k _
    unfold State.modCtx
    congr 1
    apply modAt_congr
    simp only [hj]
    cases j <;> rfl

/-- With no job waiting, no write of the slot begins. -/
theorem kickSlot_none (s : State) (k : CtxId) (h : s.ctxs[k].jobs = []) : s.kickSlot k = s := by
  unfold State.kickSlot
  rw [h]
  cases s.ctxs[k].slotPhase <;> rfl

/-- Table 4-3 as one update. -/
theorem raiseEvents_eq (s : State) (l : LaneId) (r : Recipe) (evs : List Event) : s.raiseEvents l r evs = { s with
    notices := if evs.any (Event.enabled r) = true then modAt s.notices l fun n => { n with alarm := true } else s.notices
    lanes := if evs.any (Event.holds r) = true then modAt s.lanes l fun n => { n with hold := true } else s.lanes } := by
  unfold State.raiseEvents
  cases evs.any (Event.enabled r) <;> cases evs.any (Event.holds r) <;> rfl

/-- The record read that completes is the one in merge. -/
theorem recordRead_of {s : State} {m : Merge} {bs : List Byte} (h : s.reads m bs) (p : Nat → Bool)
    (hp : p (recKind bs) = true) : s.recordRead p = some { m with bytes := bs } := by
  obtain ⟨h1, h2, h3, rfl⟩ := h
  unfold State.recordRead
  rw [h2]
  simp only [working_of h1, h3, State.recordAddr, true_and]
  rw [if_pos hp]

/-! ### What an unfinished record brings back (R28) -/

theorem unfinished_of {s : State} {m : Merge} {k : CtxId} {u : Undo} (h : s.holdsUndo m k u) :
    s.unfinished = modAt s.ctxs k (Ctx.undone u) := by
  simp [State.unfinished, h.1, h.2.1, h.2.2]

theorem unfinished_none {s : State} (h : ∀ m k u, ¬ s.holdsUndo m k u) : s.unfinished = s.ctxs := by
  unfold State.unfinished
  split
  · rename_i m hm
    split
    · rename_i k u hk hu
      exact absurd ⟨hm, hk, hu⟩ (h m k u)
    · rfl
  · rfl

/-- The contexts after an engine fault. -/
theorem engineFault_ctxs (s : State) (code : FaultCode) (landed : List Host.Cell) :
    (s.engineFault code landed).ctxs = s.unfinished := rfl

theorem modUndo_of {s : State} {m : Merge} {k : CtxId} {u : Undo} (h : s.holdsUndo m k u) (f : CtxId → Undo → Undo) :
    s.merge.map (Merge.modUndo f) = some { m with undo := some (f k u) } := by
  simp [Merge.modUndo, h.1, h.2.1, h.2.2]

theorem modUndo_none {s : State} (h : ∀ m k u, ¬ s.holdsUndo m k u) (f : CtxId → Undo → Undo) :
    s.merge.map (Merge.modUndo f) = s.merge := by
  cases hm : s.merge with
  | none => rfl
  | some m =>
    obtain ⟨lane, half, index, bytes, disps, ctx, phase, undo⟩ := m
    cases ctx with
    | none => rfl
    | some k =>
      cases undo with
      | none => rfl
      | some u => exact absurd ⟨hm, rfl, rfl⟩ (h _ k u)

/-- A waiter set is empty when no lane is in it. -/
theorem waitersEmpty_iff (c : CacheEntry) : c.waitersEmpty = true ↔ ∀ i : LaneId, c.waiters[i] = false := by
  unfold CacheEntry.waitersEmpty
  rw [List.all_eq_true]
  constructor
  · intro h i
    have := h c.waiters[i] (by simp)
    simpa using this
  · intro h x hx
    rw [Vector.mem_toList_iff] at hx
    obtain ⟨i, hi, rfl⟩ := Vector.mem_iff_getElem.1 hx
    have := h ⟨i, hi⟩
    simpa using this

/-- The end of an OPEN's execution is as `State.openEnds` says. -/
theorem openEnds_wake (s u : State) (l : LaneId) :
    s.openEnds u ((u.wakeRecipeIf (waitersFreed s u l)).drainWork) l := by
  refine ⟨u.wakeRecipeIf (waitersFreed s u l), ?_, rfl, ?_, ?_⟩
  · unfold State.wakeRecipeIf
    split <;> rfl
  · intro h
    apply drainWork_running
    rw [show ∀ t : State, t.engine = t.base.engine from fun _ => rfl, State.wakeRecipeIf_base]
    exact h
  · intro l'
    have hf : waitersFreed s u l = true ↔ ∃ e : EntryId, s.cache[e].waiters[l] = true ∧
        (∀ i : LaneId, u.cache[e].waiters[i] = false) ∧ u.cache[e].pins = 0 ∧ u.cache[e].writing = none := by
      unfold waitersFreed
      rw [List.any_eq_true]
      constructor
      · rintro ⟨e, -, h⟩
        simp only [Bool.and_eq_true, decide_eq_true_eq, Option.isNone_iff_eq_none] at h
        exact ⟨e, h.1.1, (waitersEmpty_iff _).1 h.1.2, h.2⟩
      · rintro ⟨e, h1, h2, h3⟩
        refine ⟨e, by simp, ?_⟩
        simp only [Bool.and_eq_true, decide_eq_true_eq, Option.isNone_iff_eq_none]
        exact ⟨⟨h1, (waitersEmpty_iff _).2 h2⟩, h3⟩
    simp only [← hf]
    unfold State.wakeRecipeIf
    cases waitersFreed s u l
    · simp
    · simp only [if_true, and_true]
      show (mapAll u.lanes fun _ n => if n.state = .waitRecipe then { n with state := .ready } else n)[l'] = _
      simp [mapAll]

end Sys2Proof.Machine
end

