-- ==== Sys2Proof/Tests/Slice0.lean ====
section
/-!
SUPPORT. Tests: a term that each well-formedness check refuses; small facts whose expected results are the spec's own (its
examples and tables); and for each statement with hypotheses a witness for each of its clauses.
-/

namespace Sys2Proof.Tests

open Sys2Proof Sys2Proof.Machine

/-! ### Well-formedness: an ill-formed term of each check is refused -/

theorem test_wf_reset_outside : (Instr.powerOnReset [(2 ^ 32, 1)]).wellFormed = false := by decide
theorem test_wf_port_outside : (Instr.portReset [(2 ^ 32, 0)]).wellFormed = false := by decide
theorem test_wf_clear_outside : (Instr.clear [(2 ^ 32, 0)]).wellFormed = false := by decide
theorem test_wf_slot_outside : (Instr.summarySlotRead 0 (.uncorrectable [(2 ^ 32, 0)])).wellFormed = false := by decide
theorem test_wf_lot_outside : (Instr.lotSlotRead 0 (.uncorrectable [(2 ^ 32, 0)])).wellFormed = false := by decide
theorem test_wf_fetch_outside : (Instr.rowFetchDone (.uncorrectable [(2 ^ 32, 0)])).wellFormed = false := by decide
theorem test_wf_load_early : (Instr.recipeLoadDone 0 [(4096, 0)] .returned).wellFormed = false := by decide
theorem test_wf_load_outside : (Instr.recipeLoadDone 0 [] (.uncorrectable [(2 ^ 32, 0)])).wellFormed = false := by decide
theorem test_wf_code_named : (Instr.badCommand 5 0).wellFormed = false := by decide
theorem test_wf_read_too_long : (Instr.engineStateRead 3 2).wellFormed = false := by decide
theorem test_wf_read_empty : (Instr.engineStateRead 0 0).wellFormed = false := by decide
theorem test_wf_write_of_command : (Instr.registerWrite 0x08 4 0).wellFormed = false := by decide
theorem test_wf_write_crosses : (Instr.registerWrite 0x1A 3 0).wellFormed = false := by decide
theorem test_wf_window_outside : (Instr.memoryWindowWrite 0xFFFFFFFF [0, 0]).wellFormed = false := by decide

/-! ### The rows of the table carry no bits -/

theorem test_no_word_spells_a_command : decodeTableWord 32 0 = none := rfl

/-! ### States and records the tests use -/

/-- The configuration of the tests: 4 recipes, images of one page. -/
def config : Configuration := ⟨4, 0x10000, 0x100000, 0x1000, 0x40000, 0x50000, 2⟩

/-- A configured engine in a run state, everything else as after reset. -/
def at_ (run : RunState) : State :=
  { State.reset with engine := { Engine.reset with run := run, configured := true, config := config } }

/-- The engine RUNNING. -/
def running : State := at_ .running

/-- A recipe of one row and four columns, all on the wafer, one site, soft bins 1..9 good code 1, the rest stray code 7. -/
def recipe : Recipe := { Recipe.zero with
  valid := true
  cols := 4
  rows := 1
  extents := [some (0, 3)]
  folds := [⟨1, 9, 1⟩]
  stray := 7
  bins := (Vector.replicate 64 ⟨false, 0, 0⟩).set 1 ⟨true, 0, 0⟩
  siteCount := 1
  offsets := [(0, 0)]
  minSample := 1
  weight := 1
  warmup := 1 }

/-- Context 0 OPEN on lane 0 under `recipe` in cache entry 0, its row 0 in the window. -/
def open_ (r : Recipe) : State := { running with
  ctxs := running.ctxs.set 0 { Ctx.reset with
    state := .opened, lane := 0, bound := true, tag := 5, winRow := some 0, dirty := true
    cells := List.replicate 4 emptyCell }
  cache := running.cache.set 0 { CacheEntry.reset with state := .valid, pins := 1, copy := r }
  lots := running.lots.set 0 { Lot.reset with state := .active, wafersOpen := 1, wafersAll := 1 }
  lanes := running.lanes.set 0 { Lane.reset with
    state := .ready, ctx := some 0, capacity := 4, halfA := 0x2000, halfB := 0x4000, inService := some ⟨.a, 0, 2⟩ } }

/-- The merge of lane 0's record 0, its read in flight. -/
def merge0 (ctx : Option CtxId) : Merge := ⟨0, .a, 0, [], [], ctx, .reading, none⟩

/-- What a fault would bring back to context 0. -/
def undo0 : Undo := ⟨7, some 3, 2⟩

/-- The merge of lane 0's record 0, accepted, with its disposition being written. -/
def accepted0 : Merge := { merge0 (some 0) with phase := .disposition 1, undo := some undo0 }

/-- `s` with a record (its first bytes) at lane 0's record 0 and its read in flight. -/
def reading (s : State) (ctx : Option CtxId) (bytes : List Host.Cell) : State := { s with
  mem := bytes.map fun c => (0x2040 + c.1, c.2)
  merge := some (merge0 ctx) }

/-! ### Facts with results from the spec -/

/-- 3.3: 2 good of 3 tested is 6666 bp. -/
theorem test_yield_floor_rounding : waferYield { Ctx.reset with tested := 3, good := 2 } = 6666 := by decide

/-- R54: a floor of 9900 with hysteresis 500 releases at 10000. -/
theorem test_release_clamped :
    floorReleases { recipe with floor := 9900, floorHyst := 500 } { Ctx.reset with tested := 3, good := 3 } = true := by decide

/-- R54: one point below the floor asserts, the floor itself does not. -/
theorem test_floor_asserts :
    floorAsserts { recipe with floor := 6667 } { Ctx.reset with tested := 3, good := 2 } = true ∧
    floorAsserts { recipe with floor := 6666 } { Ctx.reset with tested := 3, good := 2 } = false := by decide

/-- R61: the trend's division truncates towards zero: from 1000 towards 999 by weight 1 is a move of 0. -/
theorem test_trend_truncates : Int.tdiv (999 - 1000) (2 ^ 1) = 0 := by decide

/-- R61: a count of 0 seeds E with Y × 256. -/
theorem test_trend_seeds : trendNext recipe { Ctx.reset with tested := 2, good := 2 } 77 0 = 2560000 := by decide

/-- R164: after reset ENGINE_STATE reads counts 24, 8 and 0. -/
theorem test_engine_state_after_reset : State.reset.registerValue 0x1C = 0x00818000 := by decide

/-- R173: CONTROL holds RUN in bit 0 and the mode in bit 9. -/
theorem test_control_value :
    ({ State.reset with control := ⟨true, ⟨false, false, false, false, true⟩, true⟩ } : State).registerValue 0x00 = 0x301 := by
  decide

/-- R171: an ADJUSTED cell of code 5, one touch, site 3 is 0x3345. -/
theorem test_cell_halfword : (⟨.adjusted, 5, 1, 3⟩ : MapCell).halfword = 0x3345 := by decide

/-- R170: RETURNED with status FAULTED and count 0x0102. -/
theorem test_returned_word : returnedWord statusFaulted 0x0102 = [2, 4, 2, 1] := by decide

/-- Table 9-3: with HANDBACK and CLOSE enabled, a first half return raises a message in each mode, a second none. -/
theorem test_message_of_handback (each : Bool) :
    (let s : State := { running with control := ⟨true, ⟨true, true, false, false, false⟩, each⟩ }
     messagesRaised s (s.setHandback 2) = 1 ∧ messagesRaised (s.setHandback 2) (s.setHandback 2) = 0) := by
  cases each <;> decide

/-- Table 9-3: with HANDBACK set, a CLOSE raises no message under EDGE and one under EACH. -/
theorem test_message_of_close (each : Bool) :
    (let s : State := State.setHandback { running with control := ⟨true, ⟨true, true, false, false, false⟩, each⟩ } 2
     messagesRaised s (s.setClose 2) = each.toNat) := by
  cases each <;> decide

/-- R20: a TOUCHDOWN's first site finds its row in the window, and the die at column 2 is counted good under code 1. -/
theorem test_touchdown_counts :
    (mergeSite recipe (List.replicate 24 0 ++ [3, 0]) 0 2 (open_ recipe).ctxs[0]).good = 1 := by decide

/-- R127: a SCAN_NOW with nothing to look at leaves no pass in flight. -/
theorem test_scan_of_nothing : running.startPass.scan.pass = none := by decide

/-- R126: a host write is read back where the part reads a hand-over word. -/
theorem test_host_write_lands : Mem.read (running.store 0x2000 [1, 0, 3, 0]).mem 0x2002 = 3 := by decide

/-- R90: a use moves an entry to the front of the last-use order. -/
theorem test_last_use : moveToFront 2 [0, 1, 2, 3] = [2, 0, 1, 3] := by decide

/-- R122: halves that overlap make a descriptor invalid, halves that touch do not. -/
theorem test_descriptor_overlap :
    (⟨true, 0, 1, 0, 64⟩ : Descriptor).ok = false ∧ (⟨true, 0, 1, 0, 128⟩ : Descriptor).ok = true := by decide

/-! ### Witnesses: for each clause of a statement with hypotheses, a state and operands that meet them -/

theorem wit_FrontCommandRuns : ({ running with pending := [.nop, .grant] } : State).pending = .nop :: [.grant] := rfl

theorem wit_EmptyQueueTicks :
    (State.reset.pending = [] ∧ State.reset.engine.run ≠ .running) ∧
    (running.pending = [] ∧ running.engine.run = .running ∧ running.scan.timer + 1 < running.engine.config.scanInterval ∧
      running.second + 1 < 1000) ∧
    (let s : State := { running with second := 999 }
     s.pending = [] ∧ s.engine.run = .running ∧ s.scan.timer + 1 < s.engine.config.scanInterval ∧ 1000 ≤ s.second + 1) ∧
    (let s : State := { running with scan := ⟨1, none, false⟩, second := 998 }
     s.pending = [] ∧ s.engine.run = .running ∧ s.engine.config.scanInterval ≤ s.scan.timer + 1 ∧ s.second + 1 < 1000) := by
  decide

/-- An engine that reads its common header. -/
def starting : State := { State.reset with engine := { Engine.reset with start := .header } }

theorem wit_ClearTakenOrRefused :
    (at_ .faulted).engine.run = .faulted ∧
    (State.reset.engine.run = .stopped ∧ State.reset.engine.start = .none) ∧ running.engine.run = .running ∧
    (at_ .draining).engine.run = .draining ∧ (starting.engine.run = .stopped ∧ starting.engine.start ≠ .none) := by decide

/-- Trend writebacks in flight of two entries of one recipe number, a stale one and a fresh one (R102): of a byte that both
store, either value may be the last to land. -/
def writing2 : State :=
  let e (n : Nat) : CacheEntry := { CacheEntry.reset with writing := some ⟨0x10024, 0, n⟩ }
  { at_ .stopped with cache := (running.cache.set 0 { e 1 with stale := true }).set 1 (e 2) }

/-- An offset no write in flight stores, and two bytes in flight at one offset, the last listed with none after it. -/
theorem wit_ResetsClearTheChip :
    (∀ c ∈ [(0x10028, (1 : Byte))], running.resetLands c = true → c.1 ≠ 0x2000) ∧
    [((0x10028, 2) : Host.Cell), (0x10028, 1)] = [(0x10028, 2)] ++ (0x10028, 1) :: [] ∧
    writing2.resetLands (0x10028, 2) = true ∧ writing2.resetLands (0x10028, 1) = true ∧
    (0x10028 : Nat) < 2 ^ 32 ∧ Mem.wf writing2.mem = true := by decide

/-- Lane 0's half A, offered with 2 records, being returned COMPLETE. -/
def returning : State := { open_ recipe with
  mem := [(0x2000, 1), (0x2002, 2)]
  lanes := (open_ recipe).lanes.set 0 { (open_ recipe).lanes[0] with state := .idle, inService := some ⟨.a, 2, 2⟩, ret := .writing } }

/-- Context 0's live block rewrite with its contents being written, the generation being 2. -/
def rewriting : State := (open_ recipe).modCtx 0 fun c =>
  { c with generation := 2, jobs := [.rewrite .nothing], slotPhase := some (.contents [7]) }

theorem wit_ResetStopsWrites :
    ((0x2000, 2) : Host.Cell) ∈ returning.inFlight ∧ ((0x2000, 2) : Host.Cell) ∈ returning.wordCells ∧
    (∀ n < 8, (3 : Byte).getLsbD n = (Mem.read returning.mem 0x2000).getLsbD n ∨ (3 : Byte).getLsbD n = (2 : Byte).getLsbD n) ∧
    (at_ .faulted).engine.run = .faulted ∧
    (returning.engine.run ≠ .faulted ∧ returning.lanes[(0 : LaneId)].ret = .writing ∧
      returning.lanes[(0 : LaneId)].inService = some ⟨.a, 2, 2⟩) ∧
    (rewriting.engine.run ≠ .faulted ∧ rewriting.ctxs[(0 : CtxId)].slotPhase = some (.contents [7])) := by decide

/-- R155, R174: a RETURNED word over OFFERED that a port reset stops may read as state code 3, which a look answers with
BAD_HANDOVER. -/
theorem test_torn_handover :
    (match exec (.portReset [(0x2000, 3)]) returning with
    | .next t => decide (Mem.read t.mem 0x2000 = 3)
    | _ => false) = true ∧
    Mem.read (returning.memStopped returning.resetLands [(0x2000, 5)]) 0x2000 = 1 := by decide

/-- R155, Table 8-5: contents partly rewritten under the old even generation, or the new one. -/
theorem test_even_generation :
    (rewriting.resetLands (0x40040, 2) && rewriting.resetLands (0x40040, 4) && rewriting.resetLands (0x40044, 7) &&
      !rewriting.resetLands (0x40040, 5)) = true := by decide

/-- R28: a fault while a disposition byte is being written leaves it PENDING; a port reset may find it written. -/
theorem test_fault_gives_no_disposition :
    let s : State := { open_ recipe with merge := some accepted0, scan := ⟨0, some (.ctx 5), false⟩ }
    (match exec (.summarySlotRead 5 (.uncorrectable [(0x2041, 1)])) s with
    | .next t => decide (Mem.read t.mem 0x2041 = 0)
    | _ => false) = true ∧
    s.resetLands (0x2041, 1) = true := by decide

/-- The byte of the write that lands last stands, whichever entry's write it is of. -/
theorem test_last_landed_stands :
    Mem.read (writing2.memStopped writing2.lands [(0x10028, 2), (0x10028, 1)]) 0x10028 = 1 ∧
    Mem.read (writing2.memStopped writing2.lands [(0x10028, 1), (0x10028, 2)]) 0x10028 = 2 := by decide

theorem wit_RunActsByState :
    (State.reset.engine.run = .stopped ∧ State.reset.engine.start = .none ∧ State.reset.engine.configured = false) ∧
    ((at_ .stopped).engine.run = .stopped ∧ (at_ .stopped).engine.start = .none ∧
      (at_ .stopped).engine.configured = true) ∧
    (starting.engine.run = .stopped ∧ starting.engine.start ≠ .none) ∧ running.engine.run = .running ∧
    (at_ .draining).engine.run = .draining ∧ (at_ .faulted).engine.run = .faulted := by decide

/-- `s` with cache entry 0 changed. -/
def entry0 (s : State) (f : CacheEntry → CacheEntry) : State := s.modEntry 0 f

/-- `s` with context 0 changed. -/
def ctx0 (s : State) (f : Ctx → Ctx) : State := s.modCtx 0 f

/-- `s` with lane 0 changed. -/
def lane0 (s : State) (f : Lane → Lane) : State := s.modLane 0 f

theorem wit_DrainBegins (w : Option TrendWrite) :
    let s := entry0 running fun c => { c with state := .valid, dirty := true, writing := w }
    s.engine.run = .running ∧ s.merge = none ∧ (∀ l, s.command.progress ≠ .retirePending l) ∧ s.closeQ = [] ∧
      s.closeUnit = .idle ∧ s.cache[(0 : EntryId)].dirty = true ∧ s.cache[(0 : EntryId)].writing = w :=
  ⟨rfl, rfl, (nofun), rfl, rfl, rfl, rfl⟩

theorem wit_DrainEnds (warm : Bool) :
    let s : State := { State.reset with engine := { Engine.reset with run := .draining, warmPending := warm } }
    s.engine.run = .draining ∧ s.merge = none ∧ s.closeQ = [] ∧ s.closeUnit = .idle ∧ s.scan.pass = none ∧
      s.command.progress = .none ∧ (∀ l : LaneId, s.lanes[l].look = none ∧ s.lanes[l].ret = .none) ∧
      (∀ k : CtxId, s.ctxs[k].jobs = [] ∧ s.ctxs[k].slotPhase = none ∧ s.ctxs[k].drainWrite = false ∧
        (s.ctxs[k].state = .opened → s.ctxs[k].dirty = false)) ∧
      (∀ e : EntryId, s.cache[e].writing = none ∧ s.cache[e].state ≠ .loading ∧ s.cache[e].dirty = false) ∧
      s.engine.warmPending = warm := by
  cases warm <;> decide

/-- A common header at offset 0 that passes every check of Table 8-3. -/
def header : List Host.Cell :=
  [(0, 1), (4, 4), (10, 1), (14, 16), (18, 2), (21, 16), (26, 4), (30, 5), (32, 2)]

theorem wit_ColdStartReadsHeader :
    (let s : State := { starting with mem := header }
     let b := s.common.toNat
     let w (o : Nat) : Nat := get32 (fun i => Mem.read s.mem (b + i)) o
     s.engine.run = .stopped ∧ s.engine.start = .header ∧ b % 64 = 0 ∧ b + 320 ≤ 2 ^ 32 ∧ w 0 = 1 ∧ 1 ≤ w 4 ∧
      w 4 ≤ 256 ∧ w 8 % 4096 = 0 ∧ w 8 + w 4 * 4096 ≤ 2 ^ 32 ∧ w 12 % 4096 = 0 ∧ w 12 + w 16 ≤ 2 ^ 32 ∧ w 20 ≠ 0 ∧
      w 20 % 4096 = 0 ∧ 24 * w 20 ≤ w 16 ∧ w 24 % 1024 = 0 ∧ w 24 + 24 * 1024 ≤ 2 ^ 32 ∧ w 28 % 512 = 0 ∧
      w 28 + 8 * 512 ≤ 2 ^ 32) ∧
    (starting.engine.run = .stopped ∧ starting.engine.start = .header ∧
      get32 (fun i => Mem.read starting.mem (starting.common.toNat + i)) 0 ≠ 1) := by decide

theorem wit_ColdStartReadsDescriptors (stop : Bool) :
    let s (l : LaneId) : State := { State.reset with
      engine := { Engine.reset with start := .descriptor l, stopPending := stop, config := config } }
    ((s 14).engine.run = .stopped ∧ (s 14).engine.start = .descriptor 14 ∧ (14 : LaneId).val < 15) ∧
    ((s 15).engine.run = .stopped ∧ (s 15).engine.start = .descriptor 15 ∧ (15 : LaneId).val = 15 ∧
      (s 15).engine.stopPending = stop) := by
  cases stop <;> decide

theorem wit_CommonBaseWrite :
    (State.reset.engine.run = .stopped ∧ State.reset.engine.configured = false ∧ State.reset.engine.start = .none) ∧
    (at_ .stopped).engine.configured = true ∧ starting.engine.start ≠ .none ∧ (at_ .faulted).engine.run ≠ .stopped := by
  decide

/-- RUNNING with lane `l` IDLE, context `k` CLOSED and lot entry `i` POSTED, as the flags say. -/
def toScan (lane ctx lot : Bool) : State := { running with
  lanes := if lane then running.lanes.set 15 { Lane.reset with state := .idle } else running.lanes
  ctxs := if ctx then running.ctxs.set 23 { Ctx.reset with state := .closed } else running.ctxs
  lots := if lot then running.lots.set 7 { Lot.reset with state := .posted } else running.lots }

/-- A lane that a pass looks at. -/
def wants (s : State) (l : LaneId) : Prop := s.lanes[l].state = .idle ∧ s.lanes[l].inService = none ∧
  s.lanes[l].look = none ∧ s.command.progress ≠ .retirePending l

theorem wit_ScanPassStarts :
    State.reset.engine.run ≠ .running ∧
    (({ running with scan := ⟨0, some (.lot 7), false⟩ } : State).engine.run = .running ∧
      ({ running with scan := ⟨0, some (.lot 7), false⟩ } : State).scan.pass ≠ none) ∧
    ((toScan true true true).engine.run = .running ∧ (toScan true true true).scan.pass = none ∧
      wants (toScan true true true) 15 ∧ ∀ l' < (15 : LaneId), ¬ wants (toScan true true true) l') ∧
    ((∀ l, ¬ wants (toScan false true true) l) ∧ (toScan false true true).ctxs[(23 : CtxId)].state = .closed ∧
      ∀ k' < (23 : CtxId), (toScan false true true).ctxs[k'].state ≠ .closed) ∧
    ((∀ l, ¬ wants (toScan false false true) l) ∧ (∀ k : CtxId, (toScan false false true).ctxs[k].state ≠ .closed) ∧
      (toScan false false true).lots[(7 : LotId)].state = .posted ∧
      ∀ i' < (7 : LotId), (toScan false false true).lots[i'].state ≠ .posted) ∧
    ((∀ l, ¬ wants running l) ∧ (∀ k : CtxId, running.ctxs[k].state ≠ .closed) ∧
      ∀ i : LotId, running.lots[i].state ≠ .posted) := by
  unfold wants
  decide

theorem wit_FlushMarksEveryEntry :
    (at_ .draining).engine.run = .draining ∧ (at_ .faulted).engine.run = .faulted ∧ running.engine.run = .running ∧
    State.reset.engine.run = .stopped ∧
    (let s := entry0 running fun c => { c with state := .valid }
     s.cache[(0 : EntryId)].state = .valid ∧ s.cache[(0 : EntryId)].dirty = false ∧ s.cache[(0 : EntryId)].pins = 0) ∧
    (let s := entry0 running fun c => { c with state := .valid, pins := 1 }
     s.cache[(0 : EntryId)].state = .valid ∧ s.cache[(0 : EntryId)].dirty = false ∧ 0 < s.cache[(0 : EntryId)].pins) ∧
    (let s := entry0 running fun c => { c with state := .valid, dirty := true }
     s.cache[(0 : EntryId)].state = .valid ∧ s.cache[(0 : EntryId)].dirty = true ∧
      s.cache[(0 : EntryId)].writing = none) ∧
    (let s := entry0 running fun c => { c with state := .valid, dirty := true, writing := some ⟨0, 0, 0⟩ }
     s.cache[(0 : EntryId)].state = .valid ∧ s.cache[(0 : EntryId)].dirty = true ∧
      s.cache[(0 : EntryId)].writing ≠ none) ∧
    (entry0 running fun c => { c with state := .loading }).cache[(0 : EntryId)].state = .loading ∧
    running.cache[(0 : EntryId)].state = .invalid := by decide

/-- `s` with a lane command in progress. -/
def busyWith (s : State) (p : CmdProgress) : State := { s with command := ⟨5, 0, .pending, p⟩ }

theorem wit_LaneCommandTurnedAway :
    (Instr.retire 15 = .retire 15 ∧ (5 : BitVec 3) = 5 ∧ (busyWith running (.enabling 3)).command.progress ≠ .none) ∧
    (∀ code : BitVec 3, code = 0 ∨ code = 6 ∨ code = 7 →
      Instr.badCommand code 0 = .badCommand code 0 ∧ running.command.progress = .none) ∧
    (Instr.enable 0 ≠ .badCommand 1 0 ∧ State.reset.command.progress = .none ∧ State.reset.engine.run ≠ .running) :=
  ⟨by decide, fun _ _ => ⟨rfl, rfl⟩, by decide⟩

theorem wit_LaneCommandsTaken :
    running.engine.run = .running ∧ running.command.progress = .none ∧ running.lanes[(15 : LaneId)].state = .disabled ∧
    (open_ recipe).lanes[(0 : LaneId)].state ≠ .disabled ∧
    (running.lanes[(0 : LaneId)].inService = none ∧ running.lanes[(0 : LaneId)].ctx = none) ∧
    ((open_ recipe).lanes[(0 : LaneId)].inService ≠ none ∧ (open_ recipe).lanes[(0 : LaneId)].ctx ≠ none) := by decide

theorem wit_EnableReadsDescriptor (run : RunState) (h : run = .running ∨ run = .draining) :
    let s := busyWith (at_ run) (.enabling 15)
    (s.engine.run = .running ∨ s.engine.run = .draining) ∧ s.command.progress = .enabling 15 := ⟨h, rfl⟩

/-- Lane 0 IDLE with nothing in service, unbound. -/
def idleLane : State := lane0 running fun n => { n with state := .idle }

/-- Lane 0 in WAIT_RECIPE among the waiters of entry 0 as given, lane 1 in WAIT_RECIPE too. -/
def waiting2 (waiters : Vector Bool 16) : State := { entry0 running fun c => { c with waiters := waiters } with
  lanes := (running.lanes.set 0 { Lane.reset with state := .loading }).set 1 { Lane.reset with state := .waitRecipe } }

theorem wit_RetireOfUnboundLane :
    (running.engine.run = .running ∧ running.command.progress = .none ∧ running.lanes[(0 : LaneId)].state = .disabled) ∧
    (let s : State := { idleLane with merge := some (merge0 none) }
     s.command.progress = .none ∧ s.lanes[(0 : LaneId)].state ≠ .disabled ∧ s.merge = some (merge0 none) ∧
      (merge0 none).lane = 0) ∧
    (let s := lane0 idleLane fun n => { n with ret := .writing }
     s.lanes[(0 : LaneId)].ret ≠ .none) ∧
    (idleLane.command.progress = .none ∧ idleLane.lanes[(0 : LaneId)].state ≠ .disabled ∧ idleLane.merge = none ∧
      idleLane.lanes[(0 : LaneId)].ret = .none ∧ idleLane.lanes[(0 : LaneId)].ctx = none) ∧
    (let s := busyWith idleLane (.retirePending 0)
     s.command.progress = .retirePending 0 ∧ s.merge = none ∧ s.lanes[(0 : LaneId)].ret = .none ∧
      s.lanes[(0 : LaneId)].ctx = none) ∧
    (let s : State := { busyWith idleLane (.retirePending 0) with merge := some (merge0 none) }
     s.command.progress = .retirePending 0 ∧ s.merge = some (merge0 none)) ∧
    (let s := waiting2 ((Vector.replicate 16 false).set 0 true)
     s.lanes[(0 : LaneId)].state ≠ .disabled ∧ s.lanes[(1 : LaneId)].state = .waitRecipe ∧
      s.cache[(0 : EntryId)].waiters[(0 : LaneId)] = true ∧
      ∀ i : LaneId, i ≠ 0 → s.cache[(0 : EntryId)].waiters[i] = false) := by decide

/-- A bound context, with the Close Unit busy and IDLE, and carried out later in RUNNING and in DRAINING. -/
theorem wit_RetireOfBoundLane (p : ClosePhase) (run : RunState) :
    let s : State := { open_ recipe with closeUnit := p }
    let d : State := { busyWith (open_ recipe) (.retirePending 0) with engine := (at_ run).engine }
    (s.engine.run = .running ∧ s.command.progress = .none ∧ s.lanes[(0 : LaneId)].state ≠ .disabled ∧ s.merge = none ∧
      s.lanes[(0 : LaneId)].ret = .none ∧ s.lanes[(0 : LaneId)].ctx = some 0 ∧ s.ctxs[(0 : CtxId)].lane = 0 ∧
      s.closeUnit = p) ∧
    (d.engine.run = run ∧ d.command.progress = .retirePending 0 ∧ d.merge = none ∧ d.lanes[(0 : LaneId)].ret = .none ∧
      d.lanes[(0 : LaneId)].ctx = some 0 ∧ d.closeUnit = .idle) :=
  ⟨⟨rfl, rfl, by simp [open_], rfl, rfl, rfl, rfl, rfl⟩, rfl, rfl, rfl, rfl, rfl, rfl⟩

theorem wit_RetireReturnsHalf :
    (let s := busyWith (open_ recipe) (.retireSkipping 0)
     s.engine.run = .running ∧ s.command.progress = .retireSkipping 0 ∧
      s.lanes[(0 : LaneId)].inService = some ⟨.a, 0, 2⟩ ∧ Mem.wf s.mem = true ∧
      s.lanes[(0 : LaneId)].recordAddr .a 1 + 1 < 2 ^ 32) ∧
    (let s := busyWith (open_ recipe) (.retireReturning 0)
     s.engine.run = .running ∧ s.command.progress = .retireReturning 0 ∧
      s.lanes[(0 : LaneId)].inService = some ⟨.a, 0, 2⟩) := by decide

theorem wit_RegisterWriteActs :
    ((0x1F : Nat) < 0x20 ∧ (3 : Nat) < 4) ∧ (0x1C : Nat) ≤ 0x1C ∧ (0x00010000 : Word).getLsbD 24 = false ∧
    (0x01010000 : Word).getLsbD 24 = true ∧ (0x10F : Word).toNat / 256 % 8 = 1 ∧ (0x20F : Word).toNat / 256 % 8 = 2 ∧
    (0x30F : Word).toNat / 256 % 8 = 3 ∧ (0x40F : Word).toNat / 256 % 8 = 4 ∧ (0x50F : Word).toNat / 256 % 8 = 5 ∧
    (0xFFFF : Word).toNat < 65536 := by decide

/-- A probe transaction in flight. -/
def probing (s : State) (region : BitVec 3) (index : BitVec 5) (word : BitVec 11) (isWrite : Bool) (v : Word) : State :=
  { s with probe := ⟨word, index, region, isWrite, true, false, 0, v⟩ }

theorem wit_ProbeTransactionBegins :
    (probing running 1 0 0 false 0).probe.busy = true ∧ running.probe.busy = false := by decide

theorem wit_ProbeReadAnswered :
    (∀ r ∈ [(1 : BitVec 3), 2, 3, 4], (probing running r 7 0 false 0).probe.busy = true ∧
      (probing running r 7 0 false 0).probe.isWrite = false ∧ (probing running r 7 0 false 0).probe.index.toNat < 8 ∧
      (probing running r 7 0 false 0).probe.region.toNat = r.toNat) ∧
    (probing running 1 23 95 false 0).probe.word.toNat = 32 + 63 ∧
    (probing running 1 23 143 false 0).probe.word.toNat = 128 + 15 ∧
    (probing running 1 23 24 false 0).probe.word.toNat = 21 + 3 ∧ (probing running 1 23 28 false 0).probe.word.toNat = 25 + 3 ∧
    (probing running 1 23 159 false 0).probe.word.toNat = 144 + 511 / 32 ∧
    (probing running 1 23 415 false 0).probe.word.toNat = 160 + 255 ∧
    running.lanes[7].ctx = none ∧ running.lanes[7].inService = none ∧
    ((open_ recipe).lanes[0].inService = some ⟨.a, 0, 2⟩ ∧ (open_ recipe).lanes[0].ctx = some 0) ∧
    running.ctxs[23].winRow = none ∧ (open_ recipe).ctxs[0].winRow = some 0 ∧
    (probing running 3 7 1087 false 0).probe.word.toNat = 64 + 1023 ∧
    ((probing running 3 8 7 false 0).probe.index.toNat = 8 ∧ running.lastUse[7]? = some 7) ∧
    (probing running 4 7 79 false 0).probe.word.toNat = 16 + 63 ∧
    ((probing running 4 8 33 false 0).probe.index.toNat = 8 ∧ (probing running 4 8 33 false 0).probe.word.toNat = 2 + 31 ∧
      (let s : State := { running with closeQ := [.ctx 23, .lot 7] }
       s.closeQ[0]? = some (.ctx 23) ∧ s.closeQ[1]? = some (.lot 7) ∧ s.closeQ.length ≤ 2)) ∧
    ((probing running 1 0 416 false 0).probe.word.toNat = 416 ∧ (probing running 3 0 1088 false 0).probe.word.toNat = 1088 ∧
      (probing running 4 8 34 false 0).probe.word.toNat = 34 ∧ (probing running 3 9 0 false 0).probe.index.toNat = 9 ∧
      (probing running 4 0 12 false 0).probe.word.toNat = 12 ∧ (probing running 4 0 80 false 0).probe.word.toNat = 80) ∧
    ((probing running 1 24 0 false 0).probe.index.toNat = 24 ∧ (probing running 1 0 31 false 0).probe.word.toNat = 31 ∧
      (probing running 2 0 13 false 0).probe.word.toNat = 13 ∧ running.lastUse.length = 8) := by decide

theorem wit_ProbeWriteStored :
    (let s := probing (open_ recipe) 1 0 15 true 65536
     s.probe.busy = true ∧ s.probe.isWrite = true ∧ s.probe.index.toNat < 24 ∧ s.probe.region.toNat = 1 ∧
      s.probe.word.toNat = 15 ∧ s.ctxs[0].state = .opened) ∧
    (let s := { probing (open_ recipe) 1 0 15 true 3 with merge := some accepted0 }
     s.ctxs[0].state = .opened ∧ (s.merge = some accepted0 ∧ accepted0.ctx = some 0 ∧ accepted0.undo = some undo0)) ∧
    (let s := probing running 2 15 9 true 3
     s.probe.busy = true ∧ s.probe.isWrite = true ∧ s.probe.index.toNat < 16 ∧ s.probe.store.toNat < 4 ∧
      s.probe.region.toNat = 2 ∧ s.probe.word.toNat = 9) ∧
    (let s := probing running 2 15 9 true 4
     s.probe.busy = true ∧ s.probe.isWrite = true ∧ s.probe.region.toNat ≠ 1 ∧ 4 ≤ s.probe.store.toNat) := by decide

theorem wit_SecondEventMovesTimers (active : Bool) :
    let s (limit count : Nat) : State := ctx0 (open_ recipe) fun c =>
      { c with idleLimit := limit, idleCount := count, active := { c.active with idle := active } }
    let c (limit count : Nat) : Ctx := (s limit count).ctxs[(0 : CtxId)]
    State.reset.engine.run ≠ .running ∧ (s 0 0).engine.run = .running ∧ running.ctxs[(1 : CtxId)].state ≠ .opened ∧
    ((c 0 65534).state = .opened ∧ (c 0 65534).idleLimit = 0 ∧ (c 0 65534).idleCount < 65535) ∧
    ((c 0 65535).idleLimit = 0 ∧ 65535 ≤ (c 0 65535).idleCount) ∧ (c 3 1).idleCount + 1 < (c 3 1).idleLimit ∧
    (c 3 2).idleCount + 1 = (c 3 2).idleLimit ∧
    ((c 3 3).idleLimit ≠ 0 ∧ (c 3 3).idleCount = (c 3 3).idleLimit ∧ (c 3 3).active.idle = active) := by
  cases active <;> decide

theorem wit_holdsUndo (p : PassPos) :
    let s := { open_ recipe with merge := some accepted0, scan := ⟨0, some p, false⟩ }
    (s.engine.run = .running ∧ s.ctxs[(0 : CtxId)].state = .opened ∧ s.scan.pass = some p ∧
      s.holdsUndo accepted0 0 undo0) ∧
    ∀ m k u, ¬ (open_ recipe).holdsUndo m k u :=
  ⟨⟨rfl, rfl, rfl, rfl, rfl, rfl⟩, fun _ _ _ h => nomatch h.1⟩

/-- 2.2 (R28): a slot read's fault while the disposition of an accepted record is being written: the number, the first number
and the idle count are those from before the record. -/
theorem test_fault_unrecords_number :
    let s := { (open_ recipe).modCtx 0 (fun c => { c with lastTouch := 9, firstTouch := some 9, tested := 4 }) with
      merge := some accepted0, scan := ⟨0, some (.ctx 5), false⟩ }
    (match exec (.summarySlotRead 5 (.uncorrectable [])) s with
    | .next t =>
      let c := t.ctxs[(0 : CtxId)]
      decide (t.engine.run = .faulted ∧ c.lastTouch = 7 ∧ c.firstTouch = some 3 ∧ c.idleCount = 2 ∧ c.tested = 4)
    | _ => false) = true := by decide

theorem wit_IdleExpiryActs (inMerge active auto : Bool) :
    let s := ctx0 (open_ { recipe with autoclose := auto }) fun c =>
      { c with idleDue := true, inMerge := inMerge, active := { c.active with idle := active } }
    s.engine.run = .running ∧ s.ctxs[(0 : CtxId)].state = .opened ∧ s.ctxs[(0 : CtxId)].idleDue = true ∧
      s.ctxs[(0 : CtxId)].inMerge = inMerge ∧ (s.recipeFor 0).autoclose = auto ∧
      s.ctxs[(0 : CtxId)].active.idle = active := by
  cases inMerge <;> cases active <;> cases auto <;> decide

theorem wit_ScanPassGoesOn (rescan : Bool) :
    State.reset.engine.run ≠ .running ∧
    ((toScan false true true).engine.run = .running ∧ PassPos.rank (.lane 15) < PassPos.rank (.ctx 23) ∧
      (toScan false true true).ctxs[(23 : CtxId)].state = .closed ∧
      (∀ k' < (23 : CtxId), (toScan false true true).ctxs[k'].state ≠ .closed)) ∧
    (∀ q, PassPos.rank (.lot 7) < PassPos.rank q → False) ∧
    ({ running with scan := ⟨0, some (.lot 7), rescan⟩ } : State).scan.rescan = rescan := by
  refine ⟨by decide, by decide, ?_, rfl⟩
  intro q h
  cases q <;> simp only [PassPos.rank] at h <;> omega

/-- Lane 0 IDLE with a look in flight, and a hand-over word with the given first bytes at its half. -/
def looking (k : Look) (bytes : List Host.Cell) : State := { running with
  lanes := running.lanes.set 0 { Lane.reset with state := .idle, look := some k, capacity := 4, halfA := 0x2000, halfB := 0x4000 }
  mem := bytes.map fun c => (0x2000 + c.1, c.2) }

/-- A look of a pass at half A of lane 0, its read in flight. -/
def look0 : Look := ⟨.a, 0x2000, true, false, .reading⟩

theorem wit_LookActs :
    (let s := looking look0 []
     (s.engine.run = .running ∨ s.engine.run = .draining) ∧ s.lanes[(0 : LaneId)].look = some look0 ∧
      look0.phase = .reading ∧ look0.void = false ∧ (Mem.read s.mem 0x2000).toNat = 0) ∧
    ({ look0 with void := true } : Look).void = true ∧
    (Mem.read (looking look0 [(0, 2)]).mem 0x2000).toNat = 2 ∧
    3 ≤ (Mem.read (looking look0 [(0, 3)]).mem 0x2000).toNat ∧
    (let m := (looking look0 [(0, 1)]).mem
     (Mem.read m 0x2000).toNat = 1 ∧ (Mem.read m 0x2002).toNat + 256 * (Mem.read m 0x2003).toNat = 0) ∧
    (let s := looking look0 [(0, 1), (2, 4)]
     (Mem.read s.mem 0x2002).toNat + 256 * (Mem.read s.mem 0x2003).toNat = 4 ∧ 4 ≤ s.lanes[(0 : LaneId)].capacity) ∧
    (let s := looking look0 [(0, 1), (2, 5)]
     s.lanes[(0 : LaneId)].capacity < (Mem.read s.mem 0x2002).toNat + 256 * (Mem.read s.mem 0x2003).toNat) := by decide

theorem wit_LookAnswerWritten (void : Bool) (p : LookPhase) (h : p = .answerEmpty ∨ p = .answerBadCount) :
    let k : Look := { look0 with void := void, phase := p }
    let s := looking k []
    s.engine.run = .running ∧ s.lanes[(0 : LaneId)].look = some k ∧ k.phase ≠ .reading ∧ k.phase = p ∧ k.void = void := by
  rcases h with rfl | rfl <;> cases void <;> decide

/-- A pass that reads the slot of a context or of a lot entry, with the first byte of both slots given. -/
def reads (p : PassPos) (v : Byte) : State := { toScan false true true with
  scan := ⟨0, some p, false⟩
  mem := if v = 0 then [] else [(0x40000 + 23 * 1024, v), (0x50000 + 7 * 512, v)] }

theorem wit_SlotReadFrees :
    ((reads (.ctx 23) 3).engine.run = .running ∧ (reads (.ctx 23) 3).scan.pass = some (.ctx 23) ∧
      Mem.read (reads (.ctx 23) 3).mem ((reads (.ctx 23) 3).engine.config.slotBase + 23 * 1024) = 3) ∧
    (reads (.ctx 23) 2).scan.pass = some (.ctx 23) ∧
    ¬ Mem.read (reads (.ctx 23) 2).mem ((reads (.ctx 23) 2).engine.config.slotBase + 23 * 1024) = 3 ∧
    ((reads (.lot 7) 3).scan.pass = some (.lot 7) ∧
      Mem.read (reads (.lot 7) 3).mem ((reads (.lot 7) 3).engine.config.lotBase + 7 * 512) = 3) ∧
    ((reads (.lot 7) 2).scan.pass = some (.lot 7) ∧
      ¬ Mem.read (reads (.lot 7) 2).mem ((reads (.lot 7) 2).engine.config.lotBase + 7 * 512) = 3) := by decide

theorem wit_UncorrectableReadFaults :
    (reads (.ctx 23) 0).scan.pass = some (.ctx 23) ∧ (reads (.lot 7) 0).scan.pass = some (.lot 7) ∧
    (let s : State := { open_ recipe with merge := some { merge0 (some 0) with phase := .rowFetch 511 } }
     s.engine.run = .running ∧ s.merge = some { merge0 (some 0) with phase := .rowFetch 511 }) ∧
    (let s := entry0 (at_ .draining) fun c => { c with state := .loading, load := .reading 0 }
     s.engine.run = .draining ∧ s.cache[(0 : EntryId)].load = .reading 0) := by decide

theorem wit_GrantChoosesCandidate :
    (let s := open_ recipe
     s.merge = none ∧ s.engine.run = .running ∧ s.lanes[(0 : LaneId)].inService = some ⟨.a, 0, 2⟩ ∧
      s.lanes[(0 : LaneId)].state = .ready ∧ s.lanes[(0 : LaneId)].hold = false ∧
      (∀ l' : LaneId, s.lanes[l'].state = .ready → s.lanes[l'].priority ≤ s.lanes[(0 : LaneId)].priority ∧ 0 ≤ l')) ∧
    (running.merge = none ∧ ∀ l' : LaneId, running.lanes[l'].state ≠ .ready) := by decide

/-- The bytes of lane 0's record 0 in a state. -/
def recordIn (s : State) : List Byte := Mem.readBytes s.mem 0x2040 64

theorem reads_record (s : State) (ctx : Option CtxId) (bytes : List Host.Cell) (hr : s.engine.run = .running)
    (hl : s.lanes[(0 : LaneId)].recordAddr .a 0 = 0x2040) :
    (reading s ctx bytes).reads (merge0 ctx) (recordIn (reading s ctx bytes)) := by
  refine ⟨.inl hr, rfl, rfl, ?_⟩
  show _ = Mem.readBytes _ (s.lanes[(0 : LaneId)].recordAddr .a 0) 64
  rw [hl]
  rfl

/-- A record of the open wafer of `open_`, its merge bound to context 0. -/
def wafer (bytes : List Host.Cell) : State := reading (open_ recipe) (some 0) bytes

/-- A record of a lane without a wafer. -/
def bare (bytes : List Host.Cell) : State :=
  reading (lane0 (open_ recipe) fun n => { n with ctx := none }) none bytes

theorem wit_reads (bytes : List Host.Cell) :
    (wafer bytes).reads (merge0 (some 0)) (recordIn (wafer bytes)) ∧
    (bare bytes).reads (merge0 none) (recordIn (bare bytes)) :=
  ⟨reads_record _ _ _ rfl (by decide), reads_record _ _ _ rfl (by decide)⟩

theorem wit_NopBadKindReadError :
    recKind (recordIn (wafer [(0, 6)])) = 6 ∧ recKind (recordIn (wafer [])) = 0 ∧
    7 ≤ recKind (recordIn (wafer [(0, 7)])) ∧ (wafer []).engine.run = .running := by decide

theorem wit_TouchdownRefusals :
    (recKind (recordIn (bare [(0, 2)])) = 2 ∧ (merge0 none).ctx = none) ∧
    (recKind (recordIn (wafer [(0, 2)])) = 2 ∧
      recTag (recordIn (wafer [(0, 2)])) ≠ (wafer [(0, 2)]).ctxs[(0 : CtxId)].tag) ∧
    (let s := wafer [(0, 2), (4, 5)]
     recTag (recordIn s) = s.ctxs[(0 : CtxId)].tag ∧ tdNumber (recordIn s) ≤ s.ctxs[(0 : CtxId)].lastTouch) ∧
    (let s := wafer [(0, 2), (4, 5), (8, 1), (16, 2)]
     recTag (recordIn s) = s.ctxs[(0 : CtxId)].tag ∧ s.ctxs[(0 : CtxId)].lastTouch < tdNumber (recordIn s) ∧
      ∀ i : SiteId, tdMask (recordIn s) i = true → (s.recipeFor 0).siteCount ≤ i.val) := by decide

theorem wit_CloseRecord :
    (recKind (recordIn (bare [(0, 4)])) = 4 ∧ (merge0 none).ctx = none) ∧
    (recKind (recordIn (wafer [(0, 4)])) = 4 ∧
      recTag (recordIn (wafer [(0, 4)])) ≠ (wafer [(0, 4)]).ctxs[(0 : CtxId)].tag) ∧
    (recKind (recordIn (wafer [(0, 4), (4, 5)])) = 4 ∧
      recTag (recordIn (wafer [(0, 4), (4, 5)])) = (wafer [(0, 4), (4, 5)]).ctxs[(0 : CtxId)].tag) := by decide

theorem wit_LotEndRecord :
    (let s := wafer [(0, 5), (4, 9)]
     recKind (recordIn s) = 5 ∧ ∀ i : LotId, ¬ (s.lots[i].state = .active ∧ s.lots[i].id = endLot (recordIn s))) ∧
    (let s := wafer [(0, 5)]
     s.lots[(0 : LotId)].state = .active ∧ s.lots[(0 : LotId)].id = endLot (recordIn s) ∧
      0 < s.lots[(0 : LotId)].wafersOpen) ∧
    (let s : State := { wafer [(0, 5)] with lots := running.lots.set 7 { Lot.reset with state := .active } }
     s.lots[(7 : LotId)].state = .active ∧ s.lots[(7 : LotId)].id = endLot (recordIn s) ∧
      s.lots[(7 : LotId)].wafersOpen = 0 ∧ ∀ i' < (7 : LotId), s.lots[i'].state ≠ .active) := by decide

theorem wit_LotItemWrites (p : ClosePhase) (_ : p = .lotSummary ∨ p = .lotPosting) :
    let s : State := { running with closeQ := [.lot 7], closeUnit := p }
    s.engine.run = .running ∧ s.closeQ = .lot 7 :: [] ∧ s.closeUnit = p := ⟨rfl, rfl, rfl⟩

/-- A TOUCHDOWN of the open wafer at column 2 of row 0, soft bin 3; with `off` at column 4, off the map. -/
def touch (off : Bool) : State := wafer [(0, 2), (4, 5), (8, 1), (12, if off then 4 else 2), (16, 1), (24, 3)]

theorem wit_TouchdownMerges (off : Bool) :
    let s := touch off
    recKind (recordIn s) = 2 ∧ (merge0 (some 0)).disps = [] ∧ recTag (recordIn s) = s.ctxs[(0 : CtxId)].tag ∧
      s.ctxs[(0 : CtxId)].lastTouch < tdNumber (recordIn s) ∧
      (tdMask (recordIn s) 0 = true ∧ 0 < (s.recipeFor 0).siteCount) ∧
      ∃ (c : Ctx) (ds : List SiteDisp),
        runSites (s.recipeFor 0) (recordIn s) (List.finRange 16) s.ctxs[(0 : CtxId)] [] = .done c ds ∧
        (off = false → SiteDisp.merged ∈ ds) ∧ (off = true → ∀ d ∈ ds, d = .absent ∨ d = .offMap) := by
  cases off
  · exact ⟨by decide, rfl, by decide, by decide, by decide, _, _, rfl, by decide, by decide⟩
  · exact ⟨by decide, rfl, by decide, by decide, by decide, _, _, rfl, by decide, by decide⟩

/-- A second site at an offset of two columns: the first site of the TOUCHDOWN is merged, the second is off the map. -/
theorem wit_TouchdownPartial :
    let r : Recipe := { recipe with siteCount := 2, offsets := [(0, 0), (2, 0)] }
    let s := reading (open_ r) (some 0) [(0, 2), (4, 5), (8, 1), (12, 2), (16, 3), (24, 3), (26, 9)]
    s.reads (merge0 (some 0)) (recordIn s) ∧ recKind (recordIn s) = 2 ∧
      recTag (recordIn s) = s.ctxs[(0 : CtxId)].tag ∧ s.ctxs[(0 : CtxId)].lastTouch < tdNumber (recordIn s) ∧
      ∃ (c : Ctx) (ds : List SiteDisp),
        runSites (s.recipeFor 0) (recordIn s) (List.finRange 16) s.ctxs[(0 : CtxId)] [] = .done c ds ∧
        SiteDisp.merged ∈ ds ∧ SiteDisp.offMap ∈ ds :=
  ⟨reads_record _ _ _ rfl (by decide), by decide, by decide, by decide, _, _, rfl, by decide, by decide⟩

/-- The record `bytes` with context 0's window and bitmap as given. -/
def windowed (bytes : List Host.Cell) (y : Option RowId) (dirty row0 : Bool) : State :=
  ctx0 (wafer bytes) fun c =>
    { c with winRow := y, dirty := dirty, rowsDone := (Vector.replicate 512 false).set 0 row0 }

/-- The same TOUCHDOWN with a dirty window on row 511, and with row 0 in the image and no window. -/
theorem wit_TouchdownStops :
    let bytes : List Host.Cell := [(0, 2), (4, 5), (8, 1), (12, 2), (16, 1), (24, 3)]
    let ends (s : State) : SitesEnd :=
      runSites (s.recipeFor 0) (recordIn s) ((List.finRange 16).drop 0) s.ctxs[(0 : CtxId)] []
    (let s := windowed bytes (some 511) true false
     s.reads (merge0 (some 0)) (recordIn s) ∧ ends s = .writeback s.ctxs[(0 : CtxId)] [] 0) ∧
    (let s := windowed bytes none false true
     s.reads (merge0 (some 0)) (recordIn s) ∧ ends s = .fetch { s.ctxs[(0 : CtxId)] with winRow := none } [] 0) :=
  ⟨⟨⟨.inl rfl, rfl, rfl, rfl⟩, rfl⟩, ⟨.inl rfl, rfl, rfl, rfl⟩, rfl⟩

theorem wit_SitesInTurn :
    (tdMask (recordIn (touch false)) 15 = false ∧ recipe.siteCount ≤ (1 : SiteId).val) ∧
    (tdMask (recordIn (touch false)) 0 = true ∧ (0 : SiteId).val < recipe.siteCount ∧
      onMap recipe (tdX (recordIn (touch false)) + 0) (tdY (recordIn (touch false)) + 0) = some (2, 0)) ∧
    onMap recipe (tdX (recordIn (touch true)) + 0) (tdY (recordIn (touch true)) + 0) = none ∧
    (open_ recipe).ctxs[(0 : CtxId)].winRow = some 0 ∧
    ({ Ctx.reset with winRow := some 511, dirty := true } : Ctx).dirty = true ∧
    (({ Ctx.reset with rowsDone := (Vector.replicate 512 false).set 0 true } : Ctx).winRow = none ∧
      ({ Ctx.reset with rowsDone := (Vector.replicate 512 false).set 0 true } : Ctx).rowsDone[(0 : RowId)] = true) ∧
    (Ctx.reset.winRow ≠ some 0 ∧ Ctx.reset.winRow = none ∧ Ctx.reset.rowsDone[(0 : RowId)] = false) := by decide

theorem wit_DieAndFold :
    recipe.rows ≤ 512 ∧ recipe.folds = [] ++ ⟨1, 9, 1⟩ :: [] ∧ 1 ≤ tdSoft (recordIn (touch false)) 0 ∧
    tdSoft (recordIn (touch false)) 0 ≤ 9 ∧
    ∀ g ∈ recipe.folds, tdSoft (recordIn (wafer [])) 0 < g.lo ∨ g.hi < tdSoft (recordIn (wafer [])) 0 := by decide

theorem wit_SiteMerged :
    let c (cell : MapCell) : Ctx := { Ctx.reset with cells := [cell] }
    0 < (c emptyCell).cells.length ∧ ((c emptyCell).cellAt 0).state = .empty ∧
    (((c ⟨.binned, 7, 1, 0⟩).cellAt 0).state = .binned ∧ ((c ⟨.binned, 7, 1, 0⟩).cellAt 0).code = 7) ∧
    (((c ⟨.binned, 1, 1, 0⟩).cellAt 0).state = .binned ∧ recipe.policy = .last ∧
      ((c ⟨.binned, 1, 1, 0⟩).cellAt 0).code ≠ 7) ∧
    ((c ⟨.adjusted, 1, 3, 0⟩).cellAt 0).state = .adjusted := by decide

/-- An ADJUST of the open wafer at column 3 of row 0 to code 63, its cell there as given. -/
def adjusting (cell : MapCell) : State :=
  let s := wafer [(0, 3), (4, 5), (8, 3), (12, 63)]
  ctx0 s fun c => { c with cells := c.cells.set 3 cell }

theorem wit_AdjustRecord :
    (recKind (recordIn (bare [(0, 3)])) = 3 ∧ (merge0 none).ctx = none) ∧
    recTag (recordIn (wafer [(0, 3)])) ≠ (wafer [(0, 3)]).ctxs[(0 : CtxId)].tag ∧
    (let s := wafer [(0, 3), (4, 5), (8, 4)]
     recKind (recordIn s) = 3 ∧ recTag (recordIn s) = s.ctxs[(0 : CtxId)].tag ∧
      onMap (s.recipeFor 0) (adjX (recordIn s)) (adjY (recordIn s)) = none) ∧
    (let s := wafer [(0, 3), (4, 5), (8, 3), (12, 64)]
     onMap (s.recipeFor 0) (adjX (recordIn s)) (adjY (recordIn s)) ≠ none ∧ 64 ≤ adjCode (recordIn s)) ∧
    (let s := adjusting emptyCell
     recTag (recordIn s) = s.ctxs[(0 : CtxId)].tag ∧
      onMap (s.recipeFor 0) (adjX (recordIn s)) (adjY (recordIn s)) = some (3, 0) ∧
      adjCode (recordIn s) = (63 : BinCode).val ∧ s.ctxs[(0 : CtxId)].winRow = some 0 ∧
      (s.ctxs[(0 : CtxId)].cellAt 3).state = .empty) ∧
    (((adjusting ⟨.adjusted, 63, 0, 0⟩).ctxs[(0 : CtxId)].cellAt 3).state = .adjusted ∧
      ((adjusting ⟨.adjusted, 63, 0, 0⟩).ctxs[(0 : CtxId)].cellAt 3).code = 63) ∧
    (((adjusting ⟨.binned, 1, 0, 0⟩).ctxs[(0 : CtxId)].cellAt 3).state = .binned ∧
      ((adjusting ⟨.binned, 1, 0, 0⟩).ctxs[(0 : CtxId)].cellAt 3).code ≠ 63) := by decide

/-- The ADJUST with its row to be synthesized, to be fetched, and behind the writeback of a dirty window. -/
theorem wit_AdjustBringsRow :
    let bytes : List Host.Cell := [(0, 3), (4, 5), (8, 3), (12, 63)]
    let on (s : State) : Prop := recTag (recordIn s) = s.ctxs[(0 : CtxId)].tag ∧
      onMap (s.recipeFor 0) (adjX (recordIn s)) (adjY (recordIn s)) = some (3, 0) ∧
      adjCode (recordIn s) = (63 : BinCode).val
    (on (windowed bytes none false false) ∧
      (windowed bytes none false false).ctxs[(0 : CtxId)].rowsDone[(0 : RowId)] = false ∧
      (({ (windowed bytes none false false).ctxs[(0 : CtxId)] with
        cells := synthRow recipe 0 } : Ctx).cellAt 3).state = .empty) ∧
    (on (windowed bytes (some 511) false true) ∧
      (windowed bytes (some 511) false true).ctxs[(0 : CtxId)].winRow ≠ some 0 ∧
      (windowed bytes (some 511) false true).ctxs[(0 : CtxId)].dirty = false ∧
      (windowed bytes (some 511) false true).ctxs[(0 : CtxId)].rowsDone[(0 : RowId)] = true) ∧
    (on (windowed bytes (some 511) true false) ∧
      (windowed bytes (some 511) true false).ctxs[(0 : CtxId)].winRow = some 511 ∧
      (windowed bytes (some 511) true false).ctxs[(0 : CtxId)].dirty = true) := by decide

theorem wit_RecordDisposed :
    (let m : Merge := { merge0 (some 0) with phase := .siteWord 1 1 }
     let s : State := { open_ recipe with merge := some m }
     s.engine.run = .running ∧ s.merge = some m ∧ s.lanes[m.lane].inService = some ⟨.a, 0, 2⟩ ∧ m.phase = .siteWord 1 1) ∧
    (let m : Merge := { merge0 (some 0) with phase := .disposition 1 }
     let s : State := { open_ recipe with merge := some m }
     s.merge = some m ∧ s.lanes[m.lane].inService = some ⟨.a, 0, 2⟩ ∧ m.phase = .disposition 1) := by decide

theorem wit_RowOperationsComplete (done : Bool) :
    (let m : Merge := { merge0 (some 0) with phase := .rowWriteback 1 }
     let s : State := { ctx0 (open_ recipe) fun c =>
       { c with rowsDone := (Vector.replicate 512 false).set 1 done } with merge := some m }
     s.engine.run = .running ∧ s.merge = some m ∧ m.ctx = some 0 ∧ m.phase = .rowWriteback 1 ∧
      s.ctxs[(0 : CtxId)].winRow = some 0 ∧ (s.ctxs[(0 : CtxId)].rowsDone.set 0 true)[(1 : RowId)] = done) ∧
    (let m : Merge := { merge0 (some 0) with phase := .rowFetch 511 }
     let s : State := { open_ recipe with merge := some m }
     s.merge = some m ∧ m.ctx = some 0 ∧ m.phase = .rowFetch 511) := by
  cases done <;> decide

/-- A TOUCHDOWN that goes on at its last site, and an ADJUST. -/
theorem wit_MergeGoesOn :
    (let m : Merge := { merge0 (some 0) with bytes := recordIn (touch false), disps := List.replicate 15 .absent }
     recKind m.bytes = 2 ∧ m.disps.length = 15) ∧
    (let s := adjusting emptyCell
     let m : Merge := { merge0 (some 0) with bytes := recordIn s }
     recKind m.bytes ≠ 2 ∧ onMap (s.recipeFor 0) (adjX m.bytes) (adjY m.bytes) = some (3, 0) ∧
      adjCode m.bytes = (63 : BinCode).val) := by decide

theorem wit_MapRowRoundTrip : 0xF345 % 2 ^ 14 = (⟨.adjusted, 5, 1, 3⟩ : MapCell).halfword := by decide

/-- An OPEN of a lane without a wafer; `bytes` follow its kind. -/
def opening (s : State) (bytes : List Host.Cell) : State :=
  { bare ((0, 1) :: bytes) with ctxs := s.ctxs, cache := s.cache, lots := s.lots }

/-- A RUNNING engine whose lot entry 0 has lot id 0. -/
def lot0 (f : Lot → Lot) : State := { running with lots := running.lots.set 0 (f { Lot.reset with state := .active }) }

theorem wit_OpenRefused :
    (let s := wafer [(0, 1)]
     recKind (recordIn s) = 1 ∧ s.lanes[(0 : LaneId)].ctx ≠ none) ∧
    (let s := opening running [(12, 4)]
     recKind (recordIn s) = 1 ∧ s.lanes[(0 : LaneId)].ctx = none ∧ s.engine.config.recipeCount ≤ openRecipe (recordIn s)) ∧
    (let s := opening (lot0 fun t => { t with state := .ending }) []
     s.lots[(0 : LotId)].state = .ending ∧ s.lots[(0 : LotId)].id = openLot (recordIn s)) ∧
    (let s := opening (lot0 id) [(12, 3)]
     openRecipe (recordIn s) < s.engine.config.recipeCount ∧ s.lots[(0 : LotId)].state = .active ∧
      s.lots[(0 : LotId)].id = openLot (recordIn s) ∧ s.lots[(0 : LotId)].recipe ≠ openRecipe (recordIn s)) ∧
    (let s := opening (lot0 fun t => { t with wafersAll := 255 }) []
     s.lots[(0 : LotId)].recipe = openRecipe (recordIn s) ∧ s.lots[(0 : LotId)].wafersAll = 255) ∧
    (let s := opening { running with lots := Vector.replicate 8 { Lot.reset with state := .posted } } []
     ∀ i : LotId, s.lots[i].state ≠ .free ∧ s.lots[i].state ≠ .active ∧ s.lots[i].state ≠ .ending) := by decide

/-- The last lane of the waiter set of a refused entry (R91, line 2), with lane 1 in WAIT_RECIPE, whom its leaving wakes. -/
def wokenLast : State :=
  let s := opening (entry0 running fun c =>
    { c with mark := some .badFold, waiters := (Vector.replicate 16 false).set 0 true }) []
  { s with lanes := s.lanes.set 1 { Lane.reset with state := .waitRecipe } }

theorem wit_OpenOfWokenLane :
    wokenLast.reads (merge0 none) (recordIn wokenLast) ∧ recKind (recordIn wokenLast) = 1 ∧
    wokenLast.lookup (openRecipe (recordIn wokenLast)) 0 = .refused ∧
    wokenLast.cache[(0 : EntryId)].waiters[(0 : LaneId)] = true ∧
    (∀ i : LaneId, (wokenLast.cache[(0 : EntryId)].waiters.set 0 false)[i] = false) ∧
    wokenLast.cache[(0 : EntryId)].pins = 0 ∧ wokenLast.cache[(0 : EntryId)].writing = none ∧
    wokenLast.lanes[(1 : LaneId)].state = .waitRecipe :=
  ⟨⟨.inl rfl, rfl, rfl, rfl⟩, by decide, by decide, by decide, by decide, by decide, by decide, by decide⟩

/-- RUNNING, entry 0 holding recipe 0 as the function says. -/
def cached (f : CacheEntry → CacheEntry) : State := entry0 running f

theorem wit_OpenWaits :
    (let s := opening { running with ctxs := Vector.replicate 24 { Ctx.reset with state := .closed } } []
     s.lotCheck (openLot (recordIn s)) (openRecipe (recordIn s)) = .ok (.create 0) ∧
      ∀ k : CtxId, s.ctxs[k].state ≠ .free) ∧
    (let s := opening (cached fun c => { c with mark := some .badFold }) []
     s.lotCheck (openLot (recordIn s)) (openRecipe (recordIn s)) = .ok (.create 0) ∧ s.ctxs[(23 : CtxId)].state = .free ∧
      s.lookup (openRecipe (recordIn s)) 0 = .refused) ∧
    (let s := opening { running with cache := Vector.replicate 8 { CacheEntry.reset with state := .loading, number := 1 } } []
     s.lookup (openRecipe (recordIn s)) 0 = .full) ∧
    (let s := opening (cached fun c => { c with state := .loading }) []
     s.lookup (openRecipe (recordIn s)) 0 = .join 0) ∧
    (let s := opening running []
     s.lookup (openRecipe (recordIn s)) 0 = .load 0 ∧ s.cache[(0 : EntryId)].dirty = false) ∧
    (let s := opening { running with cache := Vector.replicate 8 { CacheEntry.reset with
       state := .valid, number := 1, dirty := true } } []
     s.lookup (openRecipe (recordIn s)) 0 = .load 7 ∧ s.cache[(7 : EntryId)].state = .valid ∧
      s.cache[(7 : EntryId)].dirty = true) ∧
    (let s := opening (cached fun c => { c with
       state := .valid, copy := { recipe with cols := 512, rows := 5 } }) []
     s.lookup (openRecipe (recordIn s)) 0 = .ready 0 ∧
      s.engine.config.mapStride < s.cache[(0 : EntryId)].copy.cols * s.cache[(0 : EntryId)].copy.rows * 2) := by decide

theorem wit_RecipeLookup :
    let some0 (p : CacheEntry → Prop) (s : State) : Prop := s.cache[(0 : EntryId)].number = 0 ∧ p s.cache[(0 : EntryId)]
    let waiting : Vector Bool 16 := (Vector.replicate 16 false).set 0 true
    some0 (fun c => c.waiters[(0 : LaneId)] = true ∧ c.state = .valid)
      (cached fun c => { c with state := .valid, waiters := waiting }) ∧
    some0 (fun c => c.waiters[(0 : LaneId)] = true ∧ c.state = .invalid ∧ c.mark ≠ none)
      (cached fun c => { c with mark := some .badFold, waiters := waiting }) ∧
    some0 (fun c => c.state = .valid ∧ c.stale = false) (cached fun c => { c with state := .valid }) ∧
    some0 (fun c => c.state = .loading ∧ c.stale = false) (cached fun c => { c with state := .loading }) ∧
    some0 (fun c => c.state = .invalid ∧ c.mark ≠ none) (cached fun c => { c with mark := some .badFold }) := by decide

theorem wit_RecipeVictim :
    let candidate (s : State) (e : EntryId) : Prop := s.cache[e].state ≠ .loading ∧ s.cache[e].pins = 0 ∧
      (∀ i : LaneId, s.cache[e].waiters[i] = false) ∧ s.cache[e].writing = none
    let all (f : CacheEntry → CacheEntry) : State :=
      { running with cache := Vector.replicate 8 (f { CacheEntry.reset with number := 1 }) }
    (candidate running 0 ∧ running.cache[(0 : EntryId)].state = .invalid ∧ running.cache[(0 : EntryId)].mark = none) ∧
    (let s := all fun c => { c with state := .valid }
     s.lastUse = [0, 1, 2, 3, 4, 5, 6] ++ 7 :: [] ∧ candidate s 7 ∧ s.cache[(7 : EntryId)].state = .valid ∧
      ∀ e : EntryId, s.cache[e].state ≠ .invalid ∧ s.cache[e].number ≠ 0) ∧
    (let s := all fun c => { c with mark := some .badFold }
     s.lastUse = [0, 1, 2, 3, 4, 5, 6] ++ 7 :: [] ∧ candidate s 7 ∧
      ∀ e : EntryId, s.cache[e].state = .invalid ∧ s.cache[e].mark ≠ none ∧ s.cache[e].number ≠ 0) ∧
    (let s := all fun c => { c with state := .valid, pins := 1 }
     ∀ e : EntryId, ¬ candidate s e ∧ s.cache[e].number ≠ 0) := by decide

theorem wit_OpenAccepted :
    let c0 (wait : Bool) : CacheEntry → CacheEntry := fun c =>
      { c with state := .valid, copy := recipe, waiters := (Vector.replicate 16 false).set 0 wait }
    (∀ wait : Bool, let s := opening { cached (c0 wait) with lots := (lot0 id).lots } []
     recKind (recordIn s) = 1 ∧ s.cache[(0 : EntryId)].waiters[(0 : LaneId)] = wait ∧
      s.lanes[(0 : LaneId)].ctx = none ∧ openRecipe (recordIn s) < s.engine.config.recipeCount ∧
      s.ctxs[(0 : CtxId)].state = .free ∧ s.lookup (openRecipe (recordIn s)) 0 = .ready 0 ∧
      recipe.cols * recipe.rows * 2 ≤ s.engine.config.mapStride ∧ s.lots[(0 : LotId)].state = .active ∧
      s.lots[(0 : LotId)].id = openLot (recordIn s) ∧ s.lots[(0 : LotId)].recipe = openRecipe (recordIn s) ∧
      s.lots[(0 : LotId)].wafersAll ≠ 255) ∧
    (let s := opening (cached (c0 false)) [(8, 9)]
     s.ctxs[(0 : CtxId)].state = .free ∧ s.lookup (openRecipe (recordIn s)) 0 = .ready 0 ∧
      (∀ i : LotId, s.lots[i].state ≠ .active ∧ s.lots[i].state ≠ .ending) ∧ s.lots[(0 : LotId)].state = .free) ∧
    ∀ p ∈ [MergePhase.lotLive 7 0, .slotLive 0],
      (let s : State := { ctx0 (open_ recipe) fun c => { c with jobs := [.rewrite .merge] } with
         merge := some { merge0 none with phase := p } }
       s.engine.run = .running ∧ s.merge = some { merge0 none with phase := p } ∧
        s.ctxs[(0 : CtxId)].slotPhase = none ∧
        (ctx0 s fun c => { c with slotPhase := some .posted }).ctxs[(0 : CtxId)].slotPhase ≠ none) := by decide

/-- Context 0's slot with the given jobs and write in flight. -/
def slot0 (jobs : List SlotJob) (p : Option SlotPhase) : State :=
  ctx0 (open_ recipe) fun c => { c with jobs := jobs, slotPhase := p }

/-- With no merge, no OPEN holds a slot. -/
theorem slotFree_of_idle {s : State} (k : CtxId) (h : s.merge = none) : s.slotFree k := fun m hm => by rw [h] at hm; cases hm

theorem wit_LiveBlock (why : RewriteFor) (bs : List Byte) (rest : List SlotJob) :
    ((slot0 [.rewrite .nothing] (some .genEven)).ctxs[(0 : CtxId)].slotPhase ≠ none) ∧
    ((slot0 [] none).ctxs[(0 : CtxId)].slotPhase = none ∧ (slot0 [] none).ctxs[(0 : CtxId)].jobs = [] ∧
      (slot0 [] none).slotFree 0) ∧
    ((slot0 [.rewrite why] (some (.genOdd bs))).engine.run = .running ∧
      (slot0 [.rewrite why] (some (.genOdd bs))).ctxs[(0 : CtxId)].slotPhase = some (.genOdd bs)) ∧
    (slot0 [.rewrite why] (some (.contents bs))).ctxs[(0 : CtxId)].slotPhase = some (.contents bs) ∧
    ((slot0 (.rewrite why :: rest) (some .genEven)).ctxs[(0 : CtxId)].slotPhase = some .genEven ∧
      (slot0 (.rewrite why :: rest) (some .genEven)).ctxs[(0 : CtxId)].jobs = .rewrite why :: rest ∧
      (slot0 (.rewrite why :: rest) (some .genEven)).slotFree 0) :=
  ⟨nofun, ⟨rfl, rfl, slotFree_of_idle 0 rfl⟩, ⟨rfl, rfl⟩, rfl, rfl, rfl, slotFree_of_idle 0 rfl⟩

theorem wit_LiveBlockOfMerge (word : Option Word) (code : Byte) (rest : List SlotJob) :
    let m : Merge := { merge0 (some 0) with phase := .awaitLive word code }
    let s : State := { slot0 (.rewrite .merge :: rest) (some .genEven) with merge := some m }
    s.engine.run = .running ∧ s.ctxs[(0 : CtxId)].slotPhase = some .genEven ∧
      s.ctxs[(0 : CtxId)].jobs = .rewrite .merge :: rest ∧ s.merge = some m ∧ m.phase = .awaitLive word code ∧
      s.slotFree 0 :=
  ⟨rfl, rfl, rfl, rfl, rfl, fun m h => by cases h; exact ⟨nofun, fun _ => nofun⟩⟩

/-- R118: a rewrite queued behind the POSTED word in flight begins when that write completes. -/
theorem test_rewrite_after_posted :
    let s : State := { slot0 [.posted, .rewrite .merge] (some .posted) with
      closeQ := [.ctx 0], closeUnit := .posting, merge := some { merge0 (some 0) with phase := .awaitLive none 1 } }
    ∃ t, exec .postedWritten s = .next t ∧ t.ctxs[(0 : CtxId)].jobs = [.rewrite .merge] ∧
      t.ctxs[(0 : CtxId)].slotPhase ≠ none := by
  refine ⟨_, rfl, rfl, ?_⟩
  exact nofun

theorem wit_HalfReturned (rest : List SlotJob) :
    (let s := lane0 (open_ recipe) fun n => { n with ret := .writing }
     s.engine.run = .running ∧ s.lanes[(0 : LaneId)].ret = .writing ∧
      s.lanes[(0 : LaneId)].inService = some ⟨.a, 0, 2⟩ ∧ s.lanes[(0 : LaneId)].ctx = some 0) ∧
    (let s := lane0 (open_ recipe) fun n => { n with ret := .writing, ctx := none }
     s.lanes[(0 : LaneId)].ret = .writing ∧ s.lanes[(0 : LaneId)].ctx = none) ∧
    (let s := slot0 (.rewrite (.halfReturn 0) :: rest) (some .genEven)
     s.ctxs[(0 : CtxId)].slotPhase = some .genEven ∧ s.ctxs[(0 : CtxId)].jobs = .rewrite (.halfReturn 0) :: rest ∧
      s.slotFree 0) :=
  ⟨⟨rfl, rfl, rfl, rfl⟩, ⟨rfl, rfl⟩, rfl, rfl, slotFree_of_idle 0 rfl⟩

/-- Two loads whose reads are in flight; a byte of entry 0's table entry, at offset 4, was replaced since its read was issued. -/
def loading2 : State := { running with
  cache := (running.cache.set 0 { CacheEntry.reset with state := .loading, load := .reading 1 }).set 7
    { CacheEntry.reset with state := .loading, number := 1, load := .reading 2 }
  past := [(0x10004, 8), (0x10004, 9)] }

theorem wit_RecipeLoadCompletes :
    (loading2.engine.run = .running ∧ loading2.cache[(0 : EntryId)].load = .reading 1 ∧ (7 : EntryId) ≠ 0 ∧
      loading2.cache[(7 : EntryId)].load = .reading 2) ∧
    (0x10000 + 4, (9 : Byte)) ∈ loading2.past.drop 1 ∧ (0x10000 + 4, (8 : Byte)) ∉ loading2.past.drop 1 ∧
    (let s := cached fun c => { c with state := .loading, load := .reading 0 }
     s.cache[(0 : EntryId)].load = .reading 0 ∧
      ∀ e' : EntryId, e' ≠ 0 → s.cache[e'].load = .none) := by decide

/-- R93: a byte that was written twice while the read was in flight may be taken as it stood between the two writes. -/
theorem test_read_between_writes :
    loadSrc loading2.mem (loading2.past.drop 1) 0x10000 [(4, 9)] 4 = 9 ∧
    loadSrc loading2.mem (loading2.past.drop 1) 0x10000 [(4, 8)] 4 = 0 := by decide

/-- A valid entry of one die: VALID, one site, one column, one row. -/
theorem wit_ValidRecipeInRange :
    refusalOf (fun o => if o = 0 ∨ o = 2 ∨ o = 4 ∨ o = 6 then 1 else 0) = none := by decide

/-- That entry with one byte changed. -/
def changed (offset : Nat) (v : Byte) : Nat → Byte := fun o =>
  if o = offset then v else if o = 0 ∨ o = 2 ∨ o = 4 ∨ o = 6 then 1 else 0

/-- The checks of Table 5-2 on an entry of one row, in their order: valid, geometry, extents, folds, codes, sites, policy. -/
def checks (src : Nat → Byte) : List Bool :=
  let byte (o : Nat) : Nat := (src o).toNat
  let half (o : Nat) : Nat := byte o + 256 * byte (o + 1)
  [(src 0).getLsbD 0, decide (1 ≤ half 4 ∧ half 4 ≤ 512 ∧ 1 ≤ half 6 ∧ half 6 ≤ 512),
    decide (half 1024 = 0xFFFF ∨ half 1024 ≤ half 1026 ∧ half 1026 < half 4),
    decide (byte 3 ≤ 32 ∧ ∀ i < byte 3, half (352 + 8 * i) ≤ half (354 + 8 * i)),
    decide ((∀ i < byte 3, byte (356 + 8 * i) ≤ 63) ∧ byte 8 ≤ 63), decide (1 ≤ byte 2 ∧ byte 2 ≤ 16), decide (byte 1 ≤ 2)]

/-- For each check an entry that fails it and passes those before it, and the cause that is named. -/
theorem wit_RecipeRefused :
    ((checks (changed 0 0)).take 1 = [false] ∧ refusalOf (changed 0 0) = some .notValid) ∧
    ((checks (changed 6 0)).take 2 = [true, false] ∧ refusalOf (changed 6 0) = some .badGeometry) ∧
    ((checks (changed 1026 1)).take 3 = [true, true, false] ∧ refusalOf (changed 1026 1) = some .badExtent) ∧
    ((checks (changed 3 33)).take 4 = [true, true, true, false] ∧ refusalOf (changed 3 33) = some .badFold) ∧
    ((checks (changed 8 64)).take 5 = [true, true, true, true, false] ∧ refusalOf (changed 8 64) = some .badCode) ∧
    ((checks (changed 2 17)).take 6 = [true, true, true, true, true, false] ∧
      refusalOf (changed 2 17) = some .badSites) ∧
    (checks (changed 1 3) = [true, true, true, true, true, true, false] ∧ refusalOf (changed 1 3) = some .badPolicy) ∧
    (checks (changed 5 0) = List.replicate 7 true ∧ refusalOf (changed 5 0) = none) := by decide

theorem wit_TrendWordsStored :
    let w : TrendWrite := ⟨0x10024, 0, 1⟩
    let c (f : CacheEntry → CacheEntry) : CacheEntry :=
      (cached fun c => f { c with state := .valid, writing := some w }).cache[(0 : EntryId)]
    running.engine.run ≠ .faulted ∧ (c id).writing = some w ∧
    (c fun c => { c with deferred := true }).deferred = true ∧
    ((c fun c => { c with state := .loading, load := .afterTrend }).deferred = false ∧
      (c fun c => { c with state := .loading, load := .afterTrend }).load = .afterTrend) ∧
    ((c fun c => { c with stale := true }).load ≠ .afterTrend ∧ (c fun c => { c with stale := true }).state = .valid ∧
      (c fun c => { c with stale := true }).stale = true ∧ (c fun c => { c with stale := true }).pins = 0) ∧
    ((c id).deferred = false ∧ (c id).load ≠ .afterTrend ∧ (c id).stale = false) := by decide

/-- Context 0's close item begins: CLOSING, its window clean, its one row materialized, one die tested and bad. -/
def closing (r : Recipe) (e : Int) (f : Ctx → Ctx) : State := { entry0 (open_ r) (fun c => { c with trendE := e, trendCnt := 1 }) with
  closeQ := [.ctx 0]
  ctxs := running.ctxs.set 0 (f { Ctx.reset with
    state := .closing, tested := 1, rowsDone := Vector.replicate 512 true }) }

theorem wit_CloseItemBegins :
    (({ running with closeUnit := .posting } : State).closeUnit ≠ .idle ∧ running.closeQ = []) ∧
    ((open_ recipe).ctxs[(0 : CtxId)].dirty = true ∧ (open_ recipe).ctxs[(0 : CtxId)].winRow ≠ none) ∧
    (let s := closing recipe 0 fun c => { c with winRow := some 0, drainWrite := true }
     s.ctxs[(0 : CtxId)].dirty = false ∧ s.ctxs[(0 : CtxId)].drainWrite = true ∧ s.ctxs[(0 : CtxId)].winRow ≠ none) ∧
    (let s := closing { recipe with rows := 2 } 0 fun c => { c with rowsDone := c.rowsDone.set 1 false }
     s.closeUnit = .idle ∧ s.closeQ = .ctx 0 :: [] ∧
      (s.ctxs[(0 : CtxId)].dirty = false ∧ s.ctxs[(0 : CtxId)].drainWrite = false) ∧
      (1 : RowId).val < (s.recipeFor 0).rows ∧ s.ctxs[(0 : CtxId)].rowsDone[(1 : RowId)] = false ∧
      s.ctxs[(0 : CtxId)].rowsDone[(0 : RowId)] = true) ∧
    (let s := closing { recipe with minSample := 2 } 0 id
     s.ctxs[(0 : CtxId)].tested < (s.recipeFor 0).minSample ∧ s.ctxs[(0 : CtxId)].rowsDone[(0 : RowId)] = true ∧
      (s.recipeFor 0).rows = 1) ∧
    (∀ on : Bool, let s := closing { recipe with assertMask := { Mask.none with trendLow := on } } 2560000 id
     (s.recipeFor 0).minSample ≤ s.ctxs[(0 : CtxId)].tested ∧ s.ctxs[(0 : CtxId)].rowsDone[(0 : RowId)] = true ∧
      trendLow (s.recipeFor 0) s.ctxs[(0 : CtxId)] s.cache[(0 : EntryId)].trendE s.cache[(0 : EntryId)].trendCnt = true ∧
      (s.recipeFor 0).assertMask.trendLow = on) ∧
    (let s := closing recipe 0 id
     trendLow (s.recipeFor 0) s.ctxs[(0 : CtxId)] s.cache[(0 : EntryId)].trendE s.cache[(0 : EntryId)].trendCnt = false ∧
      s.ctxs[(0 : CtxId)].jobs = [] ∧ s.ctxs[(0 : CtxId)].slotPhase = none ∧ s.merge = none) := by decide

theorem wit_LotItemBegins :
    (let s : State := { running with closeQ := [.lot 7], lots := running.lots.set 7 { Lot.reset with floor := 1, tested := 3, good := 0 } }
     s.closeUnit = .idle ∧ s.closeQ = .lot 7 :: [] ∧ 0 < s.lots[(7 : LotId)].floor ∧ s.lots[(7 : LotId)].tested ≠ 0 ∧
      s.lots[(7 : LotId)].good * 10000 / (s.lots[(7 : LotId)].tested : Int) < s.lots[(7 : LotId)].floor) ∧
    (let s : State := { running with closeQ := [.lot 7], lots := running.lots.set 7 { Lot.reset with floor := 1 } }
     0 < s.lots[(7 : LotId)].floor ∧ s.lots[(7 : LotId)].tested = 0) ∧
    (running.lots[(7 : LotId)].floor = 0) := by decide

/-- The Close Unit at step `p` of context 0's item. -/
def closeAt (p : ClosePhase) (f : Ctx → Ctx) : State := { closing recipe 0 f with closeUnit := p }

theorem wit_ContextItem :
    (∀ drain : Bool, let s := closeAt .window fun c => { c with dirty := true, winRow := some 0, drainWrite := drain }
     s.engine.run = .running ∧ s.closeQ = .ctx 0 :: [] ∧ s.closeUnit = .window ∧ s.ctxs[(0 : CtxId)].winRow = some 0 ∧
      s.ctxs[(0 : CtxId)].drainWrite = drain) ∧
    (let s := closeAt (.rows 511) id
     s.closeUnit = .rows 511 ∧ s.ctxs[(0 : CtxId)].dirty = false ∧ s.ctxs[(0 : CtxId)].drainWrite = false) ∧
    (let s := closeAt .summary fun c => { c with jobs := [.summary], slotPhase := some .summary }
     s.closeUnit = .summary ∧ s.ctxs[(0 : CtxId)].slotPhase = some .summary ∧ s.ctxs[(0 : CtxId)].jobs = [.summary] ∧
      s.merge = none) ∧
    (let s := closeAt .posting fun c => { c with jobs := [.posted], slotPhase := some .posted }
     s.closeUnit = .posting ∧ s.ctxs[(0 : CtxId)].slotPhase = some .posted ∧
      s.ctxs[(0 : CtxId)].jobs = [.posted]) := by decide

theorem wit_PinReleased :
    let c (f : CacheEntry → CacheEntry) : CacheEntry := (entry0 (open_ recipe) f).cache[(0 : EntryId)]
    2 ≤ (c fun c => { c with pins := 2 }).pins ∧ ((c id).pins ≤ 1 ∧ (c id).stale = false) ∧
    ((c fun c => { c with stale := true }).stale = true ∧ (c fun c => { c with stale := true }).dirty = false) ∧
    ((c fun c => { c with stale := true, dirty := true }).dirty = true ∧
      (c fun c => { c with stale := true, dirty := true }).writing = none) ∧
    (c fun c => { c with stale := true, dirty := true, writing := some ⟨0x10024, 0, 1⟩ }).writing ≠ none := by decide

theorem wit_WindowMessageAndHostWrites :
    (let s := ctx0 (open_ recipe) fun c => { c with drainWrite := true }
     s.engine.run = .running ∧ s.ctxs[(0 : CtxId)].drainWrite = true ∧ s.ctxs[(0 : CtxId)].winRow = some 0) ∧
    (0xFFFFFFFF : Word).toNat + [(0 : Byte)].length ≤ 2 ^ 32 ∧
    2 ^ 32 < (0xFFFFFFFF : Word).toNat + [(0 : Byte), 0].length := by decide

/-- Good counts of 100 tested dies and a floor of 50 % with hysteresis 10 %. -/
def yielding (good : Int) : Bool × Bool :=
  let r : Recipe := { recipe with floor := 5000, floorHyst := 1000, minSample := 100 }
  let c : Ctx := { Ctx.reset with tested := 100, good := good }
  (floorAsserts r c, floorReleases r c)

theorem wit_ComparisonsNeverTogether :
    (recipe.floor ≤ 10000 ∧ yielding 55 = (false, false) ∧ yielding 49 = (true, false) ∧ yielding 60 = (false, true)) ∧
    (let r (limit : Nat) : Recipe := { recipe with
       bins := recipe.bins.set 63 ⟨false, 0, limit⟩, binHyst := 1000, gapLimit := limit, gapHyst := 1000, minSample := 10 }
     let c : Ctx := { Ctx.reset with
       tested := 20
       bins := (Vector.replicate 64 0).set 63 3
       siteTested := ((Vector.replicate 16 0).set 0 10).set 15 10
       sitePass := ((Vector.replicate 16 0).set 0 3).set 15 1 }
     (binAsserts (r 2000) c 63 = false ∧ binReleases (r 2000) c 63 = false) ∧
      (gapAsserts (r 2500) c = false ∧ gapReleases (r 2500) c = false) ∧
      (0 < ((r 2000).bins[(63 : BinCode)]).limit ∧ (r 2000).minSample ≤ c.tested ∧ (0 : SiteId) ≠ 15 ∧
        (r 2000).minSample ≤ c.siteTested[(0 : SiteId)] ∧ (r 2000).minSample ≤ c.siteTested[(15 : SiteId)])) ∧
    (let r : Recipe := { recipe with floor := 1 }
     let c : Ctx := { Ctx.reset with tested := 1 }
     r.floorHyst = 0 ∧ r.binHyst = 0 ∧ r.gapHyst = 0 ∧ 0 < r.floor ∧ r.minSample ≤ c.tested ∧
      Ctx.reset.tested < r.minSample ∧ waferYield Ctx.reset < r.floor) := by decide

theorem wit_YieldComparisons :
    (({ Ctx.reset with tested := 3, siteTested := Vector.replicate 16 1 } : Ctx).tested = 3 ∧
      0 < ({ Ctx.reset with siteTested := Vector.replicate 16 1 } : Ctx).siteTested[(15 : SiteId)]) ∧
    (Ctx.reset.tested = 0 ∧ Ctx.reset.siteTested[(15 : SiteId)] = 0) := by decide

theorem wit_TrendUpdate (guarded : Bool) :
    let r : Recipe := { recipe with guarded := guarded, warmup := 1 }
    let c : Ctx := { Ctx.reset with tested := 2, good := 1 }
    (0 ≤ c.good ∧ c.good ≤ c.tested) ∧
    (r.guarded = guarded ∧ trendLow r c 2560000 1 = true) ∧ (trendLow r c 2560000 0 = false) ∧
    (trendLow r c 0 1 = false ∧ (0 : Int) ≤ waferYield c * 256) ∧
    (trendLow { r with margin := 10000 } c 2560000 1 = false ∧ waferYield c * 256 ≤ 2560000) := by
  cases guarded <;> decide

theorem wit_EvaluationDecides (on : Bool) :
    let c : Ctx := { Ctx.reset with active := ⟨on, on, on, false, Vector.replicate 64 on, Vector.replicate 16 on⟩ }
    c.active.floor = on ∧ c.active.gap = on ∧ c.active.bins[(63 : BinCode)] = on ∧ c.active.sites[(15 : SiteId)] = on := by
  cases on <;> decide

/-- A step of each run state answers a next state from a state that meets the invariants' premises. -/
theorem wit_Invariants (run : RunState) :
    let s := at_ run
    (Mem.wf s.mem = true ∧ s.lastUseOk ∧ s.messagesOk ∧ ∃ t, step s = .next t) ∧
    (∀ k : CtxId, s.ctxs[k] = Ctx.reset) ∧ (∀ i : LotId, s.lots[i] = Lot.reset) ∧ Ctx.reset.countsAgree ∧
    Lot.reset.totalsAgree ∧ (∀ i : SiteId, Ctx.reset.sitePass[i] = 0 ∧ Ctx.reset.siteTested[i] = 0 ∧ Ctx.reset.run[i] = 0) ∧
    Ctx.reset.active = Ctx.reset.latched := by
  refine ⟨⟨by cases run <;> decide, List.Perm.refl _, Nat.zero_le _, ?_⟩, ?_, ?_, rfl, rfl, ?_, rfl⟩
  · cases run <;> exact ⟨_, rfl⟩
  · intro k
    show (Vector.replicate 24 Ctx.reset)[k.val] = _
    simp
  · intro i
    show (Vector.replicate 8 Lot.reset)[i.val] = _
    simp
  · decide

theorem wit_MessagesFollowNotices (each : Bool) :
    let s : State := { running with control := ⟨true, ⟨true, false, false, false, false⟩, each⟩, messages := 8 }
    (∃ t, exec .nop s = .next t) ∧ Instr.nop ≠ .interruptMessageSent ∧ s.messages ≤ 8 ∧ s.control.each = each :=
  ⟨⟨_, rfl⟩, by decide, by cases each <;> decide, rfl⟩

theorem wit_FaultedHoldsEverything :
    (at_ .faulted).engine.run = .faulted ∧ Instr.grant ≠ .probeWriteStore ∧
    (0x00010000 : Word).getLsbD 18 = false := by decide

/-- A DRAINING engine with a window and trend words whose writebacks run, and one deferred. -/
theorem wit_DrainWorkStaysStarted :
    let s : State := { at_ .draining with
      ctxs := running.ctxs.set 0 { Ctx.reset with state := .opened, winRow := some 0, dirty := true, drainWrite := true }
      cache := running.cache.set 0 { CacheEntry.reset with
        state := .valid, dirty := true, writing := some ⟨0x10024, 0, 1⟩, deferred := true } }
    s.drainWorkStarted ∧ s.engine.run = .draining ∧ s.merge = none ∧ s.closeQ = [] ∧ s.closeUnit = .idle := by
  refine ⟨fun _ _ => ⟨by decide, fun _ _ _ => by decide⟩, rfl, rfl, rfl, rfl⟩

end Sys2Proof.Tests
end

section
/-!
PROOFS. The map and one merged site (R16, R32 to R38): the die position test, the fold of a soft bin, the standing code of
a retest, and what one merged site does by the state of its cell. They settle O32 and O33.
-/

namespace Sys2Proof.Machine

/-! ### The die position test -/

theorem inExtent_iff (r : Recipe) (x y : Nat) :
    inExtent r x y = true ↔ ∃ first last, r.extents[y]? = some (some (first, last)) ∧ first ≤ x ∧ x ≤ last := by
  unfold inExtent
  rw [List.getD_eq_getElem?_getD]
  rcases r.extents[y]? with _ | _ | ⟨first, last⟩ <;> simp

/-- The row count keeps a row that passes the test below 512, so the test never fails for the width of a row index. -/
theorem onMap_eq_some_iff (r : Recipe) (x y : Int) (hr : r.rows ≤ 512) (column : Nat) (row : RowId) :
    onMap r x y = some (column, row) ↔
      (0 ≤ x ∧ x < r.cols ∧ 0 ≤ y ∧ y < r.rows ∧ inExtent r x.toNat y.toNat = true) ∧
        x.toNat = column ∧ y.toNat = row.val := by
  unfold onMap
  split
  next h =>
    have hy : y.toNat < 512 := by omega
    simp [h, hy, Fin.ext_iff]
  next h => simp [h]

/-! ### The fold of a soft bin -/

theorem foldBin_of_first (r : Recipe) (soft : Nat) (f : FoldRange) (before after : List FoldRange)
    (hfolds : r.folds = before ++ f :: after) (hlo : f.lo ≤ soft) (hhi : soft ≤ f.hi)
    (hbefore : ∀ g ∈ before, soft < g.lo ∨ g.hi < soft) : foldBin r soft = (f.code, true) := by
  have hfind : (r.folds.find? fun g => decide (g.lo ≤ soft) && decide (soft ≤ g.hi)) = some f := by
    rw [List.find?_eq_some_iff_append]
    refine ⟨by simp [hlo, hhi], before, after, hfolds, fun g hg => ?_⟩
    have hout := hbefore g hg
    simp only [Bool.not_eq_true', Bool.and_eq_false_iff, decide_eq_false_iff_not]
    omega
  simp only [foldBin, hfind]

theorem foldBin_of_none (r : Recipe) (soft : Nat) (hnone : ∀ g ∈ r.folds, soft < g.lo ∨ g.hi < soft) :
    foldBin r soft = (r.stray, false) := by
  have hfind : (r.folds.find? fun g => decide (g.lo ≤ soft) && decide (soft ≤ g.hi)) = none := by
    rw [List.find?_eq_none]
    intro g hg
    have hout := hnone g hg
    simp only [Bool.and_eq_true, decide_eq_true_eq]
    omega
  simp only [foldBin, hfind]

/-- Settles O32: the position test by its two halves, the geometry and the extent; the fold by the first range that holds the
soft bin. -/
theorem dieAndFold : Obligations.DieAndFold := by
  refine ⟨fun r x y hr column row => ?_, fun r bs i => ⟨fun f before after hfolds hlo hhi hbefore => ?_, fun hnone => ?_⟩⟩
  · rw [onMap_eq_some_iff r x y hr, inExtent_iff]
    constructor
    · rintro ⟨⟨hx0, hx, hy0, hy, hext⟩, hcol, hrow⟩
      rw [hcol, hrow] at hext
      exact ⟨hx0, hx, hy0, hy, by omega, by omega, hext⟩
    · rintro ⟨hx0, hx, hy0, hy, rfl, rfl, hext⟩
      exact ⟨⟨hx0, hx, hy0, hy, hext⟩, rfl, rfl⟩
  · have hfold := foldBin_of_first r _ f before after hfolds hlo hhi hbefore
    exact ⟨hfold, by simp [mergedDisp, hfold]⟩
  · have hfold := foldBin_of_none r _ hnone
    exact ⟨hfold, by simp [mergedDisp, hfold]⟩

/-! ### The standing code of a retest -/

/-- When the retest policy keeps the old code of a BINNED cell against a new one (R36). -/
def retestKeeps (r : Recipe) (old new : BinCode) : Prop :=
  match r.policy with
  | .last => old = new
  | .best => old = new ∨ (r.bins[old]).rank < (r.bins[new]).rank
  | .passSticky => old = new ∨ r.isPass old = true

theorem standing_of_keeps {r : Recipe} {old new : BinCode} (h : retestKeeps r old new) :
    standing r old new = old := by
  unfold retestKeeps at h
  unfold standing
  cases hp : r.policy <;> simp only [hp] at h ⊢
  case last => exact h.symm
  case best =>
    obtain rfl | hrank := h
    · exact ite_self old
    · exact if_pos hrank
  case passSticky =>
    obtain rfl | hpass := h
    · exact ite_self old
    · exact if_pos hpass

theorem standing_of_not_keeps {r : Recipe} {old new : BinCode} (h : ¬ retestKeeps r old new) :
    standing r old new = new := by
  unfold retestKeeps at h
  unfold standing
  cases hp : r.policy <;> simp only [hp] at h ⊢
  case best => exact if_neg fun hrank => h (.inr hrank)
  case passSticky => exact if_neg fun hpass => h (.inr hpass)

/-- Under every policy a result equal to the old code keeps it, so a code that does not stand differs from the new one. -/
theorem ne_of_not_keeps {r : Recipe} {old new : BinCode} (h : ¬ retestKeeps r old new) : old ≠ new := by
  rintro rfl
  unfold retestKeeps at h
  split at h <;> simp at h

/-! ### The die counts -/

/-- A code adds one good die where its class is PASS. -/
theorem toNat_isPass (r : Recipe) (b : BinCode) :
    ((r.isPass b).toNat : Int) = if (r.bins[b]).pass = true then 1 else 0 := by
  unfold Recipe.isPass
  cases (r.bins[b]).pass <;> rfl

theorem countMove_self (r : Recipe) (c : Ctx) (b : BinCode) : countMove r c b b = c := if_pos rfl

theorem countMove_of_ne (r : Recipe) (c : Ctx) {old new : BinCode} (h : old ≠ new) :
    countMove r c old new = { c with
      bins := modAt (modAt c.bins old (· - 1)) new (· + 1)
      good := c.good - (r.isPass old).toNat + (r.isPass new).toNat } := if_neg h

/-! ### The cell and the die counts by the cell's state -/

/-- What every merged site does to the context besides its cell and the die counts: the site statistics (R34), one more touch,
and the window left dirty (R35). -/
def siteCounted (r : Recipe) (c : Ctx) (i : SiteId) (b : BinCode) : Ctx :=
  { siteStats r c i b with touches := min (c.touches + 1) Config.touchMax, dirty := true }

/-- A context with one more retest (R36, R38). -/
def Ctx.retested (c : Ctx) : Ctx := { c with retests := min (c.retests + 1) Config.touchMax }

/-- A cell with one more touch (R35). -/
def MapCell.touched (cell : MapCell) : MapCell := { cell with touches := touchUp cell.touches }

theorem cellAfter_of_empty {cell : MapCell} (h : cell.state = .empty) (r : Recipe) (i : SiteId) (b : BinCode) :
    cellAfter r cell i b = { cell.touched with state := .binned, code := b, site := i } := by
  simp [cellAfter, h, MapCell.touched]

theorem cellAfter_of_kept {r : Recipe} {cell : MapCell} {b : BinCode} (h : cell.state = .binned)
    (hkeeps : retestKeeps r cell.code b) (i : SiteId) : cellAfter r cell i b = cell.touched := by
  simp [cellAfter, h, standing_of_keeps hkeeps, MapCell.touched]

theorem cellAfter_of_moved {r : Recipe} {cell : MapCell} {b : BinCode} (h : cell.state = .binned)
    (hmoves : ¬ retestKeeps r cell.code b) (i : SiteId) :
    cellAfter r cell i b = { cell.touched with code := b, site := i } := by
  simp [cellAfter, h, standing_of_not_keeps hmoves, (ne_of_not_keeps hmoves).symm, MapCell.touched]

theorem cellAfter_of_adjusted {cell : MapCell} (h : cell.state = .adjusted) (r : Recipe) (i : SiteId) (b : BinCode) :
    cellAfter r cell i b = cell.touched := by
  simp [cellAfter, h, MapCell.touched]

theorem countSite_of_empty {cell : MapCell} (h : cell.state = .empty) (r : Recipe) (c : Ctx) (b : BinCode) :
    countSite r c cell b = countNew r c b := by
  simp [countSite, h]

theorem countSite_of_kept {r : Recipe} {cell : MapCell} {b : BinCode} (h : cell.state = .binned)
    (hkeeps : retestKeeps r cell.code b) (c : Ctx) : countSite r c cell b = c.retested := by
  simp [countSite, h, standing_of_keeps hkeeps, countMove_self, Ctx.retested]

theorem countSite_of_moved {r : Recipe} {cell : MapCell} {b : BinCode} (h : cell.state = .binned)
    (hmoves : ¬ retestKeeps r cell.code b) (c : Ctx) :
    countSite r c cell b = { c.retested with
      bins := modAt (modAt c.bins cell.code (· - 1)) b (· + 1)
      good := c.good - (r.isPass cell.code).toNat + (r.isPass b).toNat } := by
  simp only [countSite, h, standing_of_not_keeps hmoves]
  exact countMove_of_ne r c.retested (ne_of_not_keeps hmoves)

theorem countSite_of_adjusted {cell : MapCell} (h : cell.state = .adjusted) (r : Recipe) (c : Ctx) (b : BinCode) :
    countSite r c cell b = c.retested := by
  simp [countSite, h, Ctx.retested]

/-! ### One merged site -/

section

variable (r : Recipe) (bs : List Byte) (i : SiteId) (x : Nat) (c : Ctx)

/-- The code that the fold gives site `i`. -/
def foldedCode : BinCode := (foldBin r (tdSoft bs i)).1

/-- The site statistics leave the window alone, so the cell that decides is that of the context before them. -/
theorem mergeSite_eq :
    mergeSite r bs i x c =
      { countSite r (siteStats r c i (foldedCode r bs i)) (c.cellAt x) (foldedCode r bs i) with
        touches := min (c.touches + 1) Config.touchMax
        cells := c.cells.set x (cellAfter r (c.cellAt x) i (foldedCode r bs i))
        dirty := true } := rfl

theorem mergeSite_of_empty (h : (c.cellAt x).state = .empty) :
    mergeSite r bs i x c = { countNew r (siteCounted r c i (foldedCode r bs i)) (foldedCode r bs i) with
      cells := c.cells.set x
        { (c.cellAt x).touched with state := .binned, code := foldedCode r bs i, site := i } } := by
  rw [mergeSite_eq, countSite_of_empty h, cellAfter_of_empty h]
  rfl

/-- The standing code is the old one: the cell keeps its code and its site, and no die count moves. -/
theorem mergeSite_of_kept (h : (c.cellAt x).state = .binned)
    (hkeeps : retestKeeps r (c.cellAt x).code (foldedCode r bs i)) :
    mergeSite r bs i x c =
      { (siteCounted r c i (foldedCode r bs i)).retested with cells := c.cells.set x (c.cellAt x).touched } := by
  rw [mergeSite_eq, countSite_of_kept h hkeeps, cellAfter_of_kept h hkeeps]
  rfl

/-- The new code stands: the die counts move from the old code to it, and the cell takes it with its site. -/
theorem mergeSite_of_moved (h : (c.cellAt x).state = .binned)
    (hmoves : ¬ retestKeeps r (c.cellAt x).code (foldedCode r bs i)) :
    mergeSite r bs i x c = { (siteCounted r c i (foldedCode r bs i)).retested with
      bins := modAt (modAt c.bins (c.cellAt x).code (· - 1)) (foldedCode r bs i) (· + 1)
      good := c.good - (r.isPass (c.cellAt x).code).toNat + (r.isPass (foldedCode r bs i)).toNat
      cells := c.cells.set x { (c.cellAt x).touched with code := foldedCode r bs i, site := i } } := by
  rw [mergeSite_eq, countSite_of_moved h hmoves, cellAfter_of_moved h hmoves]
  rfl

theorem mergeSite_of_adjusted (h : (c.cellAt x).state = .adjusted) :
    mergeSite r bs i x c =
      { (siteCounted r c i (foldedCode r bs i)).retested with cells := c.cells.set x (c.cellAt x).touched } := by
  rw [mergeSite_eq, countSite_of_adjusted h, cellAfter_of_adjusted h]
  rfl

end

/-- Settles O33, by the state of the cell and, for a BINNED one, by whether the retest policy keeps its code. -/
theorem siteMerged : Obligations.SiteMerged := by
  intro r bs i x c _ code pass cell touched counted again keeps t
  refine ⟨fun h => ?_, fun h hkeeps => ?_, fun h hmoves => ?_, fun h => ?_⟩
  · have hmerge := mergeSite_of_empty r bs i x c h
    simp only [countNew, toNat_isPass] at hmerge
    exact hmerge
  · exact mergeSite_of_kept r bs i x c h hkeeps
  · have hmerge := mergeSite_of_moved r bs i x c h hmoves
    simp only [toNat_isPass] at hmerge
    exact hmerge
  · exact mergeSite_of_adjusted r bs i x c h

end Sys2Proof.Machine
end

section
/-!
PROOFS. Yields and comparisons (chapter 3): the yields as floors of their ratios, what each comparison of the floor, bin,
run and gap monitors says, and the band between the two comparisons of a monitor. They settle O50 and O49.
-/

namespace Sys2Proof.Machine

/-! ### Yields -/

theorem waferYield_of_untested {c : Ctx} (h : c.tested = 0) : waferYield c = 0 := if_pos h

theorem waferYield_floor {c : Ctx} (h : 0 < c.tested) :
    waferYield c * c.tested ≤ c.good * 10000 ∧ c.good * 10000 < (waferYield c + 1) * c.tested := by
  have hpos : (0 : Int) < c.tested := Int.natCast_pos.2 h
  rw [waferYield, if_neg h.ne']
  exact ⟨Int.ediv_mul_le _ hpos.ne', Int.lt_ediv_add_one_mul_self _ hpos⟩

theorem siteYield_of_untested {c : Ctx} {i : SiteId} (h : c.siteTested[i] = 0) : siteYield c i = 0 := if_pos h

theorem siteYield_floor {c : Ctx} {i : SiteId} (h : 0 < c.siteTested[i]) :
    siteYield c i * c.siteTested[i] ≤ c.sitePass[i] * 10000 ∧
      c.sitePass[i] * 10000 < (siteYield c i + 1) * c.siteTested[i] := by
  rw [siteYield, if_neg h.ne']
  exact ⟨Nat.div_mul_le_self _ _, Nat.lt_mul_of_div_lt (Nat.lt_succ_self _) h⟩

/-! ### The floor, bin and run comparisons -/

theorem floorAsserts_iff (r : Recipe) (c : Ctx) :
    floorAsserts r c = true ↔ 0 < r.floor ∧ r.minSample ≤ c.tested ∧ waferYield c < r.floor := by
  simp [floorAsserts, sampleMet, and_assoc]

theorem floorReleases_iff (r : Recipe) (c : Ctx) :
    floorReleases r c = true ↔ 0 < r.floor ∧ (r.floor + r.floorHyst ≤ waferYield c ∨ 10000 ≤ waferYield c) := by
  simp [floorReleases]

theorem binAsserts_iff (r : Recipe) (c : Ctx) (b : BinCode) :
    binAsserts r c b = true ↔ 0 < (r.bins[b]).limit ∧ r.minSample ≤ c.tested ∧
      ((r.bins[b]).limit : Int) * c.tested < c.bins[b] * 10000 := by
  simp [binAsserts, sampleMet, and_assoc]

theorem binReleases_iff (r : Recipe) (c : Ctx) (b : BinCode) :
    binReleases r c b = true ↔ 0 < (r.bins[b]).limit ∧
      c.bins[b] * 10000 ≤ max (((r.bins[b]).limit : Int) - r.binHyst) 0 * c.tested := by
  have hpoint : (((r.bins[b]).limit - r.binHyst : Nat) : Int) = max (((r.bins[b]).limit : Int) - r.binHyst) 0 := by
    omega
  rw [binReleases, hpoint, Bool.and_eq_true, decide_eq_true_iff, decide_eq_true_iff]

theorem runAsserts_iff (r : Recipe) (c : Ctx) (i : SiteId) :
    runAsserts r c i = true ↔ 0 < r.runLimit ∧ r.runLimit ≤ c.run[i] := by
  simp [runAsserts]

theorem runReleases_iff (r : Recipe) (c : Ctx) (i : SiteId) :
    runReleases r c i = true ↔ 0 < r.runLimit ∧ c.run[i] = 0 := by
  simp [runReleases]

/-! ### The site gap -/

/-- The sites that meet the sample test, in ascending order (R53, R56). -/
def qualifyingSites (r : Recipe) (c : Ctx) : List SiteId :=
  (List.finRange 16).filter fun i => decide (r.minSample ≤ c.siteTested[i])

theorem gapYields_eq (r : Recipe) (c : Ctx) : gapYields r c = (qualifyingSites r c).map (siteYield c) := rfl

@[simp] theorem mem_qualifyingSites {r : Recipe} {c : Ctx} {i : SiteId} :
    i ∈ qualifyingSites r c ↔ r.minSample ≤ c.siteTested[i] := by
  simp [qualifyingSites]

theorem nodup_qualifyingSites (r : Recipe) (c : Ctx) : (qualifyingSites r c).Nodup := (List.nodup_finRange 16).filter _

theorem foldl_max_spec (y : Nat) (ys : List Nat) : ys.foldl max y ∈ y :: ys ∧ ∀ z ∈ y :: ys, z ≤ ys.foldl max y :=
  List.max?_eq_some_iff.1 List.max?_cons'

theorem foldl_min_spec (y : Nat) (ys : List Nat) : ys.foldl min y ∈ y :: ys ∧ ∀ z ∈ y :: ys, ys.foldl min y ≤ z :=
  List.min?_eq_some_iff.1 List.min?_cons'

/-- R56: a gap is formed exactly where two sites qualify, and is the difference of the yields of two qualifying sites between
which the yields of all qualifying sites lie. -/
theorem siteGap_cases (r : Recipe) (c : Ctx) :
    (siteGap r c = none ∧ ∀ i ∈ qualifyingSites r c, ∀ j ∈ qualifyingSites r c, i = j) ∨
    (∃ i ∈ qualifyingSites r c, ∃ j ∈ qualifyingSites r c, i ≠ j) ∧
      ∃ hi ∈ qualifyingSites r c, ∃ lo ∈ qualifyingSites r c,
        siteGap r c = some (siteYield c hi - siteYield c lo) ∧
        ∀ i ∈ qualifyingSites r c, siteYield c lo ≤ siteYield c i ∧ siteYield c i ≤ siteYield c hi := by
  have hnodup := nodup_qualifyingSites r c
  have hyields := gapYields_eq r c
  cases hsites : qualifyingSites r c with
  | nil =>
    rw [hsites] at hyields
    exact .inl ⟨by simp [siteGap, hyields], by simp⟩
  | cons i rest =>
    cases rest with
    | nil =>
      rw [hsites] at hyields
      exact .inl ⟨by simp [siteGap, hyields], by simp⟩
    | cons j rest =>
      rw [hsites] at hyields hnodup
      have hne : i ≠ j := fun h => (List.nodup_cons.1 hnodup).1 (by simp [h])
      have hgap : siteGap r c = some (((j :: rest).map (siteYield c)).foldl max (siteYield c i) -
          ((j :: rest).map (siteYield c)).foldl min (siteYield c i)) := by
        simp only [siteGap, hyields, List.map_cons]
      obtain ⟨hmax, hle⟩ := foldl_max_spec (siteYield c i) ((j :: rest).map (siteYield c))
      obtain ⟨hmin, hge⟩ := foldl_min_spec (siteYield c i) ((j :: rest).map (siteYield c))
      rw [← List.map_cons] at hmax hmin hle hge
      obtain ⟨hi, hhi, hhiYield⟩ := List.mem_map.1 hmax
      obtain ⟨lo, hlo, hloYield⟩ := List.mem_map.1 hmin
      rw [← hhiYield] at hle hgap
      rw [← hloYield] at hge hgap
      exact .inr ⟨⟨i, by simp, j, by simp, hne⟩, hi, hhi, lo, hlo, hgap,
        fun k hk => ⟨hge _ (List.mem_map_of_mem hk), hle _ (List.mem_map_of_mem hk)⟩⟩

theorem gapAsserts_iff (r : Recipe) (c : Ctx) :
    gapAsserts r c = true ↔ 0 < r.gapLimit ∧ ∃ i j : SiteId, r.minSample ≤ c.siteTested[i] ∧
      r.minSample ≤ c.siteTested[j] ∧ siteYield c j + r.gapLimit < siteYield c i := by
  simp only [← mem_qualifyingSites]
  obtain ⟨hgap, hone⟩ | ⟨-, hi, hhi, lo, hlo, hgap, hbounds⟩ := siteGap_cases r c
  · simp only [gapAsserts, hgap, Bool.false_eq_true, false_iff]
    rintro ⟨-, i, j, hqi, hqj, hlt⟩
    rw [hone i hqi j hqj] at hlt
    omega
  · simp only [gapAsserts, hgap, Bool.and_eq_true, decide_eq_true_iff]
    refine and_congr_right fun _ => ⟨fun hlt => ⟨hi, lo, hhi, hlo, by omega⟩, ?_⟩
    rintro ⟨i, j, hqi, hqj, hlt⟩
    have hupper := (hbounds i hqi).2
    have hlower := (hbounds j hqj).1
    omega

theorem gapReleases_iff (r : Recipe) (c : Ctx) :
    gapReleases r c = true ↔ 0 < r.gapLimit ∧
      (∃ i j : SiteId, i ≠ j ∧ r.minSample ≤ c.siteTested[i] ∧ r.minSample ≤ c.siteTested[j]) ∧
      ∀ i j : SiteId, r.minSample ≤ c.siteTested[i] → r.minSample ≤ c.siteTested[j] →
        siteYield c i ≤ siteYield c j + (r.gapLimit - r.gapHyst) := by
  simp only [← mem_qualifyingSites]
  obtain ⟨hgap, hone⟩ | ⟨⟨i, hqi, j, hqj, hne⟩, hi, hhi, lo, hlo, hgap, hbounds⟩ := siteGap_cases r c
  · simp only [gapReleases, hgap, Bool.false_eq_true, false_iff]
    rintro ⟨-, ⟨i, j, hne, hqi, hqj⟩, -⟩
    exact hne (hone i hqi j hqj)
  · simp only [gapReleases, hgap, Bool.and_eq_true, decide_eq_true_iff]
    refine and_congr_right fun _ => ⟨fun hle => ⟨⟨i, j, hne, hqi, hqj⟩, fun i j hqi hqj => ?_⟩, fun ⟨_, hall⟩ => ?_⟩
    · have hupper := (hbounds i hqi).2
      have hlower := (hbounds j hqj).1
      omega
    · have hspread := hall hi lo hhi hlo
      omega

/-- Settles O50: each yield is the floor of its ratio, and each comparison is what its own equivalence says. -/
theorem yieldComparisons : Obligations.YieldComparisons := fun r c =>
  ⟨waferYield_of_untested, waferYield_floor, fun _ => ⟨siteYield_of_untested, siteYield_floor⟩,
    floorAsserts_iff r c, floorReleases_iff r c, fun b => ⟨binAsserts_iff r c b, binReleases_iff r c b⟩,
    fun i => ⟨runAsserts_iff r c i, runReleases_iff r c i⟩, gapAsserts_iff r c, gapReleases_iff r c⟩

/-! ### The two comparisons of a monitor -/

/-- R57: the release product of a bin, at the limit less its hysteresis, is at most the product at the limit itself. -/
theorem release_product_le (limit hyst tested : Nat) :
    max ((limit : Int) - hyst) 0 * tested ≤ (limit : Int) * tested :=
  mul_le_mul_of_nonneg_right (by omega) (Int.natCast_nonneg tested)

theorem floorReleases_of_floorAsserts {r : Recipe} {c : Ctx} (hfloor : r.floor ≤ 10000) (h : floorAsserts r c = true) :
    floorReleases r c = false := by
  obtain ⟨-, -, hlow⟩ := (floorAsserts_iff r c).1 h
  rw [← Bool.not_eq_true, floorReleases_iff]
  omega

theorem binReleases_of_binAsserts {r : Recipe} {c : Ctx} {b : BinCode} (h : binAsserts r c b = true) :
    binReleases r c b = false := by
  obtain ⟨-, -, hover⟩ := (binAsserts_iff r c b).1 h
  have hpoint := release_product_le (r.bins[b]).limit r.binHyst c.tested
  rw [← Bool.not_eq_true, binReleases_iff]
  omega

theorem gapReleases_of_gapAsserts {r : Recipe} {c : Ctx} (h : gapAsserts r c = true) : gapReleases r c = false := by
  obtain ⟨-, i, j, hqi, hqj, hover⟩ := (gapAsserts_iff r c).1 h
  rw [← Bool.not_eq_true, gapReleases_iff]
  rintro ⟨-, -, hall⟩
  have hwithin := hall i j hqi hqj
  omega

/-! ### The band between the comparisons -/

/-- Table 4-2: with neither comparison true a monitor keeps its entry. -/
theorem nextActive_of_band {active asserts releases : Bool} (ha : asserts = false) (hr : releases = false) :
    nextActive active asserts releases = active := by
  subst ha hr
  cases active <;> rfl

theorem nextActiveSet_bins (r : Recipe) (c : Ctx) (b : BinCode) :
    (nextActiveSet r c).bins[b] = nextActive c.active.bins[b] (binAsserts r c b) (binReleases r c b) := by
  simp [nextActiveSet]

theorem floorReleases_of_not_floorAsserts {r : Recipe} {c : Ctx} (hhyst : r.floorHyst = 0) (hon : 0 < r.floor)
    (hsample : r.minSample ≤ c.tested) (h : ¬ floorAsserts r c = true) : floorReleases r c = true := by
  rw [floorAsserts_iff] at h
  rw [floorReleases_iff]
  omega

theorem binReleases_of_not_binAsserts {r : Recipe} {c : Ctx} {b : BinCode} (hhyst : r.binHyst = 0)
    (hon : 0 < (r.bins[b]).limit) (hsample : r.minSample ≤ c.tested) (h : ¬ binAsserts r c b = true) :
    binReleases r c b = true := by
  have hwithin : c.bins[b] * 10000 ≤ ((r.bins[b]).limit : Int) * c.tested := by
    rw [binAsserts_iff] at h
    exact Int.not_lt.1 fun hover => h ⟨hon, hsample, hover⟩
  have hpoint : max (((r.bins[b]).limit : Int) - r.binHyst) 0 = (r.bins[b]).limit := by omega
  rw [binReleases_iff, hpoint]
  exact ⟨hon, hwithin⟩

theorem gapReleases_of_not_gapAsserts {r : Recipe} {c : Ctx} {i j : SiteId} (hhyst : r.gapHyst = 0)
    (hon : 0 < r.gapLimit) (hne : i ≠ j) (hi : r.minSample ≤ c.siteTested[i]) (hj : r.minSample ≤ c.siteTested[j])
    (h : ¬ gapAsserts r c = true) : gapReleases r c = true := by
  rw [gapAsserts_iff] at h
  rw [gapReleases_iff, hhyst]
  exact ⟨hon, ⟨i, j, hne, hi, hj⟩, fun k l hk hl => Nat.not_lt.1 fun hover => h ⟨hon, k, l, hk, hl, hover⟩⟩

/-- R57: below the minimum sample a yield under its floor is in the floor monitor's band. -/
theorem floor_band_of_unsampled {r : Recipe} {c : Ctx} (hfloor : r.floor ≤ 10000) (hsample : c.tested < r.minSample)
    (hlow : waferYield c < r.floor) : floorAsserts r c = false ∧ floorReleases r c = false := by
  rw [← Bool.not_eq_true, ← Bool.not_eq_true, floorAsserts_iff, floorReleases_iff]
  omega

/-- A comparison that makes another false is never true together with it. -/
theorem eq_false_or_eq_false {a b : Bool} (h : a = true → b = false) : a = false ∨ b = false :=
  a.eq_false_or_eq_true.elim (fun ha => .inr (h ha)) .inl

/-- Settles O49: an assertion rules the release out, since no release point passes its limit to the other side; without
hysteresis a comparison that fails is the other one. -/
theorem comparisonsNeverTogether : Obligations.ComparisonsNeverTogether := by
  intro r c hfloor
  refine ⟨eq_false_or_eq_false (floorReleases_of_floorAsserts hfloor),
    fun b => eq_false_or_eq_false binReleases_of_binAsserts, eq_false_or_eq_false gapReleases_of_gapAsserts,
    nextActive_of_band, fun b ha hr => ?_, nextActive_of_band, fun hhyst hon hsample => ?_,
    fun b hhyst hon hsample => ?_, fun i j hhyst hon hne hi hj => ?_, floor_band_of_unsampled hfloor⟩
  · rw [nextActiveSet_bins, nextActive_of_band ha hr]
  · exact or_iff_not_imp_left.2 (floorReleases_of_not_floorAsserts hhyst hon hsample)
  · exact or_iff_not_imp_left.2 (binReleases_of_not_binAsserts hhyst hon hsample)
  · exact or_iff_not_imp_left.2 (gapReleases_of_not_gapAsserts hhyst hon hne hi hj)

end Sys2Proof.Machine
end

section
/-!
PROOFS. Running and stopping the engine: where a COMMON_BASE write is taken, and what the resets and CLEAR leave of the
register (R152 to R156). They settle O8.
-/

namespace Sys2Proof.Machine

/-! ### COMMON_BASE -/

theorem commonBaseTaken_iff (s : State) :
    s.commonBaseTaken = true ↔ s.engine.run = .stopped ∧ s.engine.configured = false ∧ s.engine.start = .none := by
  simp [State.commonBaseTaken, and_assoc]

theorem exec_commonBase_of_taken {s : State} (v : Word) (h : s.commonBaseTaken = true) :
    exec (.commonBase v) s = .next { s with common := v } :=
  congrArg Host.Outcome.next (if_pos h)

theorem exec_commonBase_of_not_taken {s : State} (v : Word) (h : ¬ s.commonBaseTaken = true) :
    exec (.commonBase v) s = .next s.refuse :=
  congrArg Host.Outcome.next (if_neg h)

/-- R156: COMMON_BASE is the register at offset 4. -/
theorem registerValue_commonBase (s : State) : s.registerValue 0x04 = s.common := rfl

@[simp] theorem State.resetAll_common (s : State) (m : Mem) : (s.resetAll m).common = 0 := rfl

@[simp] theorem State.cleared_common (s : State) (m : Mem) : (s.cleared m).common = s.common := rfl

/-- R152: a CLEAR keeps COMMON_BASE, whether it is taken or refused. -/
@[simp] theorem State.clearPart_common (s : State) (landed : List Host.Cell) :
    (s.clearPart landed).common = s.common := by
  unfold State.clearPart
  split
  case isTrue => exact s.cleared_common _
  case isFalse => exact s.refuse_common

theorem powerOnReset_common {dram : List Host.Cell} {s t : State} (h : exec (.powerOnReset dram) s = .next t) :
    t.common = 0 := by
  obtain rfl := Host.Outcome.next.inj h
  exact s.resetAll_common _

theorem portReset_common {landed : List Host.Cell} {s t : State} (h : exec (.portReset landed) s = .next t) :
    t.common = 0 := by
  obtain rfl := Host.Outcome.next.inj h
  exact s.resetAll_common _

theorem clear_common {landed : List Host.Cell} {s t : State} (h : exec (.clear landed) s = .next t) :
    t.common = s.common := by
  obtain rfl := Host.Outcome.next.inj h
  exact s.clearPart_common landed

/-- Settles O8: the write is decided by `commonBaseTaken_iff`, whose three conditions are the negation of the ignored
cases. -/
theorem commonBaseWrite : Obligations.CommonBaseWrite := by
  intro v s
  refine ⟨fun hrun hconfigured hstart => ?_, fun hother => ?_, registerValue_commonBase s,
    fun _ _ => powerOnReset_common, fun _ _ => portReset_common, fun _ _ => clear_common⟩
  · exact exec_commonBase_of_taken v ((commonBaseTaken_iff s).2 ⟨hrun, hconfigured, hstart⟩)
  · refine exec_commonBase_of_not_taken v fun htaken => ?_
    obtain ⟨hrun, hconfigured, hstart⟩ := (commonBaseTaken_iff s).1 htaken
    obtain h | h | h := hother
    · exact Bool.false_ne_true (hconfigured.symm.trans h)
    · exact h hstart
    · exact h hrun

end Sys2Proof.Machine
end

section
/-!
PROOFS. What one step can do to the counts, the site statistics and the monitor sets of the contexts, to the totals of the
lot entries, to the last-use order, to the messages held and to collation memory, said once for every command
(`step_evolves`). They settle O53, O54, O55, O56 and O57.
-/

namespace Sys2Proof.Machine

/-! ### One context -/

/-- What the invariants of a context speak of: its die counts, its site statistics and its monitor sets. -/
structure Tally where
  bins       : Vector Int 64
  tested     : Nat
  siteTested : Vector Nat 16
  sitePass   : Vector Nat 16
  run        : Vector Nat 16
  active     : MonitorSet
  latched    : MonitorSet

def Ctx.tally (c : Ctx) : Tally := ⟨c.bins, c.tested, c.siteTested, c.sitePass, c.run, c.active, c.latched⟩

/-- What the events of the part may do to the tally of a context, one after the other. -/
inductive Ctx.Evolves : Ctx → Ctx → Prop where
  | keeps {c d : Ctx} (h : d.tally = c.tally) : Evolves c d
  | zeroed {c d : Ctx} (h : d.tally = Ctx.reset.tally) : Evolves c d
  | siteStats (r : Recipe) (c : Ctx) (i : SiteId) (b : BinCode) : Evolves c (siteStats r c i b)
  | countNew (r : Recipe) (c : Ctx) (b : BinCode) : Evolves c (countNew r c b)
  | countMove (r : Recipe) (c : Ctx) (old new : BinCode) : Evolves c (countMove r c old new)
  | evaluated (r : Recipe) (c : Ctx) : Evolves c (evaluated r c)
  | idleAsserted (c : Ctx) :
    Evolves c { c with active := { c.active with idle := true }, latched := { c.latched with idle := true } }
  | idleLatched (c : Ctx) : Evolves c { c with latched := { c.latched with idle := true } }
  | trendLatched (c : Ctx) : Evolves c { c with latched := { c.latched with trend := true } }
  | trans {c d e : Ctx} (h : Evolves c d) (h' : Evolves d e) : Evolves c e

theorem Ctx.Evolves.refl (c : Ctx) : c.Evolves c := .keeps rfl

/-- A step of the tally, followed by changes that leave the tally. -/
theorem Ctx.Evolves.then_keeps {c d e : Ctx} (h : c.Evolves d) (he : e.tally = d.tally) : c.Evolves e := h.trans (.keeps he)

/-! #### The counts -/

theorem binSum_modAt (v : Vector Int 64) (b : BinCode) (f : Int → Int) :
    binSum (modAt v b f) = binSum v - v[b] + f v[b] := by
  have hsum := List.sum_set' v.toList b.val (f v[b])
  rw [dif_pos (by simp), Vector.getElem_toList] at hsum
  rw [binSum, modAt, Vector.toList_set, hsum, binSum, Fin.getElem_fin]
  ring

theorem binSum_reset : binSum Ctx.reset.bins = 0 := by simp [binSum, Ctx.reset, Vector.toList_replicate]

theorem countNew_agrees {r : Recipe} {c : Ctx} {b : BinCode} (h : c.countsAgree) : (countNew r c b).countsAgree := by
  unfold Ctx.countsAgree at h ⊢
  simp only [countNew, binSum_modAt, h]
  push_cast
  ring

theorem countMove_agrees {r : Recipe} {c : Ctx} {old new : BinCode} (h : c.countsAgree) :
    (countMove r c old new).countsAgree := by
  unfold countMove
  split
  · exact h
  · unfold Ctx.countsAgree at h ⊢
    simp only [binSum_modAt, h]
    ring

/-- R39: the bin counts of a context go on adding up to its tested count. -/
theorem Ctx.Evolves.countsAgree {c d : Ctx} (h : c.Evolves d) (hc : c.countsAgree) : d.countsAgree := by
  induction h with
  | keeps h =>
    show binSum (Ctx.tally _).bins = (Ctx.tally _).tested
    rw [h]
    exact hc
  | zeroed h =>
    show binSum (Ctx.tally _).bins = (Ctx.tally _).tested
    rw [h]
    exact binSum_reset
  | countNew r c b => exact countNew_agrees hc
  | countMove r c old new => exact countMove_agrees hc
  | siteStats | evaluated | idleAsserted | idleLatched | trendLatched => exact hc
  | trans _ _ ih ih' => exact ih' (ih hc)

/-! #### The monitor sets -/

theorem MonitorSet.within_latch {a l : MonitorSet} : a.within (latch l a) := by
  refine ⟨?_, ?_, ?_, ?_, fun b => ?_, fun i => ?_⟩ <;> simp_all [latch]

/-- R66: the latched set of a context goes on containing its active set. -/
theorem Ctx.Evolves.latchedHoldsActive {c d : Ctx} (h : c.Evolves d) (hc : c.active.within c.latched) :
    d.active.within d.latched := by
  induction h with
  | keeps h =>
    show (Ctx.tally _).active.within (Ctx.tally _).latched
    rw [h]
    exact hc
  | zeroed h =>
    show (Ctx.tally _).active.within (Ctx.tally _).latched
    rw [h]
    exact ⟨id, id, id, id, fun _ => id, fun _ => id⟩
  | evaluated r c => exact MonitorSet.within_latch
  | idleAsserted c =>
    obtain ⟨hfloor, hgap, -, htrend, hbins, hsites⟩ := hc
    exact ⟨hfloor, hgap, fun _ => rfl, htrend, hbins, hsites⟩
  | idleLatched c =>
    obtain ⟨hfloor, hgap, -, htrend, hbins, hsites⟩ := hc
    exact ⟨hfloor, hgap, fun _ => rfl, htrend, hbins, hsites⟩
  | trendLatched c =>
    obtain ⟨hfloor, hgap, hidle, -, hbins, hsites⟩ := hc
    exact ⟨hfloor, hgap, hidle, fun _ => rfl, hbins, hsites⟩
  | siteStats | countNew => exact hc
  | countMove r c old new => rw [Machine.countMove]; split <;> exact hc
  | trans _ _ ih ih' => exact ih' (ih hc)

/-! #### The site statistics -/

/-- `Ctx.sitesInRange` as a property of the tally. -/
def Tally.sitesInRange (t : Tally) : Prop :=
  ∀ i : SiteId, t.sitePass[i] ≤ t.siteTested[i] ∧ t.siteTested[i] ≤ Config.siteMax ∧ t.run[i] ≤ Config.runMax

theorem siteStats_inRange {r : Recipe} {c : Ctx} {i : SiteId} {b : BinCode} (h : c.sitesInRange) :
    (siteStats r c i b).sitesInRange := by
  intro j
  obtain ⟨hpass, htested, hrun⟩ := h j
  simp only [siteStats, Fin.getElem_fin] at hpass htested hrun ⊢
  have hruns : (modAt c.run i fun n => if r.isPass b then 0 else min (n + 1) Config.runMax)[j.val] ≤ Config.runMax := by
    rw [modAt_get]
    split
    · split <;> omega
    · exact hrun
  refine ⟨?_, ?_, hruns⟩
  all_goals
    by_cases hfull : c.siteTested[i.val] < Config.siteMax
    · by_cases hpassed : r.isPass b = true <;> by_cases hij : j.val = i.val <;>
        simp_all [modAt_get] <;> omega
    · simp only [hfull, false_and, if_false]
      assumption

/-- R4, R15: the site counters and runs of a context stay in their ranges. -/
theorem Ctx.Evolves.sitesInRange {c d : Ctx} (h : c.Evolves d) (hc : c.sitesInRange) : d.sitesInRange := by
  induction h with
  | keeps h =>
    show (Ctx.tally _).sitesInRange
    rw [h]
    exact hc
  | zeroed h =>
    show (Ctx.tally _).sitesInRange
    rw [h]
    intro i
    simp [Ctx.tally, Ctx.reset]
  | siteStats r c i b => exact siteStats_inRange hc
  | countMove r c old new => rw [Machine.countMove]; split <;> exact hc
  | countNew | evaluated | idleAsserted | idleLatched | trendLatched => exact hc
  | trans _ _ ih ih' => exact ih' (ih hc)

/-! ### One lot entry -/

/-- What the events of the part may do to the totals of a lot entry, where the contexts stand at `cs` or have evolved from
there. -/
inductive Lot.Evolves (cs : Vector Ctx 24) : Lot → Lot → Prop where
  | keeps {t u : Lot} (hbins : u.bins = t.bins) (htested : u.tested = t.tested) : Evolves cs t u
  | zeroed {t u : Lot} (hbins : u.bins = Lot.reset.bins) (htested : u.tested = 0) : Evolves cs t u
  | add (t : Lot) (k : CtxId) {c : Ctx} (h : (cs[k]).Evolves c) : Evolves cs t (t.add c)
  | trans {t u v : Lot} (h : Evolves cs t u) (h' : Evolves cs u v) : Evolves cs t v

theorem Lot.Evolves.mono {cs ds : Vector Ctx 24} (hcs : ∀ k : CtxId, (cs[k]).Evolves ds[k]) {t u : Lot}
    (h : Lot.Evolves ds t u) : Lot.Evolves cs t u := by
  induction h with
  | keeps hbins htested => exact .keeps hbins htested
  | zeroed hbins htested => exact .zeroed hbins htested
  | add t k h => exact .add t k ((hcs k).trans h)
  | trans _ _ ih ih' => exact ih.trans ih'

theorem binSum_add (v w : Vector Int 64) : binSum (mapAll v fun b n => n + w[b]) = binSum v + binSum w := by
  have hsum (u : Vector Int 64) : binSum u = ∑ b : BinCode, u[b] := by
    rw [binSum, ← List.sum_ofFn]
    congr 1
    exact List.ext_getElem (by simp) fun i _ _ => by rw [Vector.getElem_toList, List.getElem_ofFn]; rfl
  simp only [hsum, ← Finset.sum_add_distrib]
  exact Finset.sum_congr rfl fun b _ => by simp

/-- R116: the bin totals of a lot entry go on adding up to its tested sum, where those of every context do. -/
theorem Lot.Evolves.totalsAgree {cs : Vector Ctx 24} (hcs : ∀ k : CtxId, (cs[k]).countsAgree) {t u : Lot}
    (h : Lot.Evolves cs t u) (ht : t.totalsAgree) : u.totalsAgree := by
  induction h with
  | keeps hbins htested =>
    unfold Lot.totalsAgree at ht ⊢
    rw [hbins, htested]
    exact ht
  | zeroed hbins htested =>
    unfold Lot.totalsAgree
    rw [hbins, htested]
    exact binSum_reset
  | add t k h =>
    have hc := h.countsAgree (hcs k)
    unfold Lot.totalsAgree at ht ⊢
    unfold Ctx.countsAgree at hc
    simp only [Lot.add, binSum_add, ht, hc]
    push_cast
    ring
  | trans _ _ ih ih' => exact ih' (ih ht)

/-! ### The whole state -/

/-- The parts of the state that the invariants speak of. -/
structure Tables where
  ctxs     : Vector Ctx 24
  lots     : Vector Lot 8
  lastUse  : List EntryId
  mem      : Mem
  messages : Nat

def State.tables (s : State) : Tables := ⟨s.ctxs, s.lots, s.lastUse, s.mem, s.messages⟩

/-- What the events of the part, one after the other, may do to these tables: how each context and each lot entry evolves,
and that the last-use order stays a permutation, memory canonical and the messages within bounds. -/
structure Tables.Evolves (a b : Tables) : Prop where
  ctxs     : ∀ k : CtxId, (a.ctxs[k]).Evolves b.ctxs[k]
  lots     : ∀ i : LotId, Lot.Evolves a.ctxs a.lots[i] b.lots[i]
  lastUse  : a.lastUse.Perm (List.finRange 8) → b.lastUse.Perm (List.finRange 8)
  mem      : Mem.wf a.mem = true → Mem.wf b.mem = true
  messages : a.messages ≤ Config.messageCapacity → b.messages ≤ Config.messageCapacity

theorem Tables.Evolves.trans {a b c : Tables} (h : a.Evolves b) (h' : b.Evolves c) : a.Evolves c where
  ctxs k := (h.ctxs k).trans (h'.ctxs k)
  lots i := (h.lots i).trans ((h'.lots i).mono h.ctxs)
  lastUse := h'.lastUse ∘ h.lastUse
  mem := h'.mem ∘ h.mem
  messages := h'.messages ∘ h.messages

theorem Tables.Evolves.with_ctxs {a : Tables} {cs : Vector Ctx 24} (h : ∀ k : CtxId, (a.ctxs[k]).Evolves cs[k]) :
    a.Evolves { a with ctxs := cs } := ⟨h, fun _ => .keeps rfl rfl, id, id, id⟩

/-- `t` is `s` after events of the part, as far as the tables of the invariants go. -/
def State.Evolves (s t : State) : Prop := s.tables.Evolves t.tables

theorem modAt_rel {α : Type} {n : Nat} {R : α → α → Prop} (hrefl : ∀ x, R x x) (v : Vector α n) (i : Fin n) (f : α → α)
    (h : R v[i] (f v[i])) (j : Fin n) : R v[j] (modAt v i f)[j] := by
  rw [Fin.getElem_fin, Fin.getElem_fin, modAt_get]
  split
  · next hij =>
    obtain rfl : j = i := Fin.ext hij
    exact h
  · exact hrefl _

theorem moveToFront_perm (e : EntryId) {us : List EntryId} (h : us.Perm (List.finRange 8)) :
    (moveToFront e us).Perm (List.finRange 8) := by
  have hnodup : us.Nodup := h.nodup_iff.2 (List.nodup_finRange 8)
  have hfilter : us.filter (fun x => decide (x ≠ e)) = us.erase e := by
    rw [hnodup.erase_eq_filter e]
    exact List.filter_congr fun x _ => by cases hx : decide (x = e) <;> simp_all
  rw [moveToFront, hfilter]
  exact (List.perm_cons_erase (h.mem_iff.2 (List.mem_finRange e))).symm.trans h

@[simp] theorem State.wakeLoading_lastUse (s : State) (e : EntryId) : (s.wakeLoading e).lastUse = s.lastUse := by
  rw [State.wakeLoading]

@[simp] theorem State.wakeRecipeIf_lastUse (s : State) (b : Bool) : (s.wakeRecipeIf b).lastUse = s.lastUse := by
  cases b
  · rfl
  · exact s.wakeRecipe_lastUse

namespace State.Evolves

theorem refl (s : State) : s.Evolves s := ⟨fun _ => .refl _, fun _ => .keeps rfl rfl, id, id, id⟩

variable {s t : State}

/-- Changes outside the tables. -/
theorem outside (h : s.Evolves t) (engine : Engine) (control : Control) (common : Word) (command : LaneCommand)
    (notices : Vector LaneNotice 16) (flags : Indicators) (probe : Probe) (readValue : Word) (lanes : Vector Lane 16)
    (cache : Vector CacheEntry 8) (merge : Option Merge) (closeQ : List CloseItem) (closeUnit : ClosePhase)
    (scan : Scanner) (second : Nat) (past : List Host.Cell) (pending : List Instr) :
    s.Evolves { t with
      engine := engine, control := control, common := common, command := command, notices := notices, flags := flags
      probe := probe, readValue := readValue, lanes := lanes, cache := cache, merge := merge, closeQ := closeQ
      closeUnit := closeUnit, scan := scan, second := second, past := past, pending := pending } := h

theorem modLane (h : s.Evolves t) (l : LaneId) (f : Lane → Lane) : s.Evolves (t.modLane l f) := h.outside ..

theorem modEntry (h : s.Evolves t) (e : EntryId) (f : CacheEntry → CacheEntry) : s.Evolves (t.modEntry e f) := h.outside ..

theorem setHandback (h : s.Evolves t) (l : LaneId) : s.Evolves (t.setHandback l) := h.outside ..

theorem setClose (h : s.Evolves t) (l : LaneId) : s.Evolves (t.setClose l) := h.outside ..

theorem setAlarm (h : s.Evolves t) (l : LaneId) : s.Evolves (t.setAlarm l) := h.outside ..

theorem setHold (h : s.Evolves t) (l : LaneId) : s.Evolves (t.setHold l) := h.outside ..

theorem setFault (h : s.Evolves t) (l : LaneId) : s.Evolves (t.setFault l) := h.outside ..

theorem laneFault (h : s.Evolves t) (l : LaneId) (c : LaneFault) : s.Evolves (t.laneFault l c) := by
  apply setFault
  exact h.modLane l _

/-- A context changes as `Ctx.Evolves` allows. -/
theorem modCtx (h : s.Evolves t) (k : CtxId) {f : Ctx → Ctx} (hf : (t.ctxs[k]).Evolves (f t.ctxs[k])) :
    s.Evolves (t.modCtx k f) :=
  Tables.Evolves.trans h (Tables.Evolves.with_ctxs (modAt_rel Ctx.Evolves.refl _ _ _ hf))

/-- A context changes outside its tally. -/
theorem modCtx_keeps (h : s.Evolves t) (k : CtxId) {f : Ctx → Ctx} (hf : ∀ c, (f c).tally = c.tally) :
    s.Evolves (t.modCtx k f) :=
  h.modCtx k (.keeps (hf _))

/-- Every context changes outside its tally. -/
theorem mapCtxs_keeps (h : s.Evolves t) {f : CtxId → Ctx → Ctx} (hf : ∀ k c, (f k c).tally = c.tally) :
    s.Evolves { t with ctxs := mapAll t.ctxs f } := by
  refine Tables.Evolves.trans h (Tables.Evolves.with_ctxs fun k => .keeps ?_)
  show Ctx.tally (mapAll t.ctxs f)[k.val] = _
  rw [mapAll_get]
  exact hf _ _

/-- A lot entry changes as `Lot.Evolves` allows. -/
theorem modLot (h : s.Evolves t) (i : LotId) {f : Lot → Lot} (hf : Lot.Evolves t.ctxs t.lots[i] (f t.lots[i])) :
    s.Evolves (t.modLot i f) :=
  Tables.Evolves.trans h ⟨fun _ => .refl _, modAt_rel (fun _ => .keeps rfl rfl) _ _ _ hf, id, id, id⟩

/-- A lot entry changes outside its totals. -/
theorem modLot_keeps (h : s.Evolves t) (i : LotId) {f : Lot → Lot} (hbins : ∀ l, (f l).bins = l.bins)
    (htested : ∀ l, (f l).tested = l.tested) : s.Evolves (t.modLot i f) :=
  h.modLot i (.keeps (hbins _) (htested _))

/-- A use of a cache entry moves it to the front of the last-use order (R90). -/
theorem used (h : s.Evolves t) (e : EntryId) {us : List EntryId} (hus : us = t.lastUse) :
    s.Evolves { t with lastUse := moveToFront e us } := by
  subst hus
  exact Tables.Evolves.trans h ⟨fun _ => .refl _, fun _ => .keeps rfl rfl, moveToFront_perm e, id, id⟩

/-- Writes into collation memory. -/
theorem with_mem (h : s.Evolves t) {m : Mem} (hm : Mem.wf t.mem = true → Mem.wf m = true) :
    s.Evolves { t with mem := m } :=
  Tables.Evolves.trans h ⟨fun _ => .refl _, fun _ => .keeps rfl rfl, id, hm, id⟩

theorem store (h : s.Evolves t) (a : Nat) (bs : List Byte) : s.Evolves (t.store a bs) :=
  (h.with_mem (Mem.wf_writeBytes bs a)).outside ..

theorem storeCells (h : s.Evolves t) (cs : List Host.Cell) : s.Evolves (t.storeCells cs) :=
  (h.with_mem (Mem.wf_writeCells cs)).outside ..

theorem storeOpt (h : s.Evolves t) : ∀ w, s.Evolves (t.storeOpt w)
  | some (a, bs) => h.store a bs
  | none => h

/-- The messages that an event raises. -/
theorem announce (h : s.Evolves t) (before : State) : s.Evolves (announce before t) := by
  refine Tables.Evolves.trans h ⟨fun _ => .refl _, fun _ => .keeps rfl rfl, id, id, fun ht => ?_⟩
  show max t.messages (min Config.messageCapacity _) ≤ Config.messageCapacity
  have hcap : t.messages ≤ Config.messageCapacity := ht
  omega

/-! #### Lanes, cache and slots -/

theorem wakeContext (h : s.Evolves t) : s.Evolves t.wakeContext := h.outside ..

theorem wakeRecipe (h : s.Evolves t) : s.Evolves t.wakeRecipe := h.outside ..

theorem wakeRecipeIf (h : s.Evolves t) (b : Bool) : s.Evolves (t.wakeRecipeIf b) := by
  cases b
  · exact h
  · exact h.wakeRecipe

theorem pin (h : s.Evolves t) (e : EntryId) : s.Evolves (t.pin e) := (h.modEntry e _).used e rfl

theorem releasePin (h : s.Evolves t) (e : EntryId) : s.Evolves (t.releasePin e) := by
  unfold State.releasePin
  split
  · exact (h.modEntry e _).wakeRecipe
  · exact h.modEntry e _

theorem leaveWaiters (h : s.Evolves t) (l : LaneId) : s.Evolves (t.leaveWaiters l) := h.outside ..

theorem joinWaiters (h : s.Evolves t) (e : EntryId) (l : LaneId) : s.Evolves (t.joinWaiters e l) := h.modEntry e _

theorem wakeLoading (h : s.Evolves t) (e : EntryId) : s.Evolves (t.wakeLoading e) := h.outside ..

theorem startLoad (h : s.Evolves t) (e : EntryId) (n : Nat) (l : LaneId) : s.Evolves (t.startLoad e n l) := h.modEntry e _

theorem installLoad (h : s.Evolves t) (e : EntryId) (src : Nat → Byte) : s.Evolves (t.installLoad e src) := by
  have hwaited (f : CacheEntry → CacheEntry) := (h.modEntry e f).wakeLoading e
  unfold State.installLoad
  split
  · refine used ((hwaited _).wakeRecipeIf _) e ?_
    rw [State.wakeRecipeIf_lastUse, State.wakeLoading_lastUse, State.modEntry_lastUse]
  · refine used (hwaited _).wakeRecipe e ?_
    rw [State.wakeRecipe_lastUse, State.wakeLoading_lastUse, State.modEntry_lastUse]

theorem finishLoad (h : s.Evolves t) (e : EntryId) (src : Nat → Byte) : s.Evolves (t.finishLoad e src) :=
  (h.installLoad e src).outside ..

theorem flush (h : s.Evolves t) : s.Evolves t.flush := by
  apply wakeRecipeIf
  exact h.outside ..

theorem trendDone (h : s.Evolves t) (e : EntryId) (w : TrendWrite) : s.Evolves (t.trendDone e w) := by
  apply wakeRecipeIf
  exact (h.store w.addr w.bytes).modEntry e _

theorem kickSlot (h : s.Evolves t) (k : CtxId) : s.Evolves (t.kickSlot k) := by
  obtain ⟨p, hp⟩ := kickSlot_frame t k
  rw [hp]
  exact h.modCtx_keeps k fun _ => rfl

theorem addJob (h : s.Evolves t) (k : CtxId) (j : SlotJob) : s.Evolves (t.addJob k j) := by
  apply kickSlot
  exact h.modCtx_keeps k fun _ => rfl

theorem rewrite (h : s.Evolves t) (k : CtxId) (why : RewriteFor) : s.Evolves (t.rewrite k why) := h.addJob k _

theorem dropJob (h : s.Evolves t) (k : CtxId) : s.Evolves (t.dropJob k) := h.modCtx_keeps k fun _ => rfl

theorem raiseEvents (h : s.Evolves t) (l : LaneId) (r : Recipe) (evs : List Event) : s.Evolves (t.raiseEvents l r evs) := by
  rw [raiseEvents_eq]
  exact h.outside ..

/-! #### The Close Unit -/

theorem closeTotals (h : s.Evolves t) (k : CtxId) : s.Evolves (t.closeTotals k) := by
  apply addJob
  exact (h.modLot _ (.add _ k (.refl _))).outside ..

theorem closeTrend (h : s.Evolves t) (k : CtxId) : s.Evolves (t.closeTrend k) := by
  have htrend := h.modEntry t.ctxs[k].entry (CacheEntry.trendUpdated (t.recipeFor k) t.ctxs[k])
  have hlow := (htrend.modCtx k (f := fun c => { c with latched := { c.latched with trend := true } })
    (.trendLatched _)).raiseEvents t.ctxs[k].lane (t.recipeFor k) [⟨.trendLow, true⟩]
  unfold State.closeTrend
  dsimp only
  split
  · split
    · split
      · apply rewrite
        exact hlow.outside ..
      · exact hlow.closeTotals k
    · exact htrend.closeTotals k
  · exact h.closeTotals k

theorem closeRows (h : s.Evolves t) (k : CtxId) : s.Evolves (t.closeRows k) := by
  unfold State.closeRows
  split
  · exact h.outside ..
  · exact h.closeTrend k

theorem beginCtxItem (h : s.Evolves t) (k : CtxId) : s.Evolves (t.beginCtxItem k) := by
  unfold State.beginCtxItem
  split
  · exact h.outside ..
  · exact h.closeRows k

theorem beginLotItem (h : s.Evolves t) (i : LotId) : s.Evolves (t.beginLotItem i) := by
  have hlow : s.Evolves (t.modLot i fun t => { t with lowFlag := true }) := h.modLot_keeps i (fun _ => rfl) fun _ => rfl
  unfold State.beginLotItem
  dsimp only
  split
  · split <;> split
    · exact ((hlow.setAlarm _).setHold _).outside ..
    · exact (hlow.setHold _).outside ..
    · exact (hlow.setAlarm _).outside ..
    · exact hlow.outside ..
  · exact h.outside ..

theorem serve (h : s.Evolves t) : s.Evolves t.serve := by
  unfold State.serve
  split
  · split
    · exact h.beginCtxItem _
    · exact h.beginLotItem _
    · exact h
  · exact h

theorem nextItem (h : s.Evolves t) : s.Evolves t.nextItem := by
  apply serve
  exact h.outside ..

theorem enqueue (h : s.Evolves t) (i : CloseItem) : s.Evolves (t.enqueue i) := by
  apply serve
  exact h.outside ..

theorem closeContext (h : s.Evolves t) (k : CtxId) (cause : CloseCause) (why : RewriteFor) :
    s.Evolves (t.closeContext k cause why) := by
  apply enqueue
  apply rewrite
  apply modLane
  exact h.modCtx_keeps k fun _ => rfl

theorem windowClean (h : s.Evolves t) (k : CtxId) : s.Evolves (t.modCtx k Ctx.windowClean) :=
  h.modCtx_keeps k fun c => by unfold Ctx.windowClean; split <;> rfl

theorem contextClosed (h : s.Evolves t) (k : CtxId) : s.Evolves (t.contextClosed k) := by
  refine modLot_keeps ?_ _ (fun _ => rfl) fun _ => rfl
  apply releasePin
  exact (h.setClose _).modCtx_keeps k fun _ => rfl

/-! #### Engine Control -/

theorem drainTrends (h : s.Evolves t) : s.Evolves t.drainTrends := by
  unfold State.drainTrends
  split
  · exact h
  · split
    · exact h.outside ..
    · exact h

theorem drainWindows (h : s.Evolves t) : s.Evolves t.drainWindows := by
  unfold State.drainWindows
  split
  · refine h.mapCtxs_keeps fun _ c => ?_
    split <;> rfl
  · exact h

theorem drainWork (h : s.Evolves t) : s.Evolves t.drainWork := by
  unfold State.drainWork
  split
  · exact h.drainWindows.drainTrends
  · exact h

theorem unfinished (h : s.Evolves t) : s.Evolves { t with ctxs := t.unfinished } := by
  unfold State.unfinished
  split
  · split
    · exact h.modCtx_keeps (f := Ctx.undone _) _ fun _ => rfl
    · exact h
  · exact h

theorem engineFault (h : s.Evolves t) (code : FaultCode) (landed : List Host.Cell) : s.Evolves (t.engineFault code landed) :=
  (h.unfinished.with_mem (Mem.wf_writeCells (landed.filter t.undisposed.lands))).outside ..

/-- The tables after a reset or a CLEAR, with collation memory as writes of single cells leave it. -/
theorem reset (h : s.Evolves t) (cs : List Host.Cell) {n : Nat} (hn : n ≤ t.messages) :
    s.Evolves { State.reset with mem := Mem.writeCells t.mem cs, messages := n } := by
  have hctx (k : CtxId) : State.reset.ctxs[k] = Ctx.reset := by simp [State.reset]
  have hlot (i : LotId) : State.reset.lots[i] = Lot.reset := by simp [State.reset]
  refine Tables.Evolves.trans h ⟨fun k => .zeroed ?_, fun i => .zeroed ?_ ?_, fun _ => ?_, Mem.wf_writeCells cs, hn.trans⟩
  · exact congrArg Ctx.tally (hctx k)
  · exact congrArg Lot.bins (hlot i)
  · exact congrArg Lot.tested (hlot i)
  · exact List.Perm.of_eq (by rfl)

theorem resetAll (h : s.Evolves t) (cs : List Host.Cell) : s.Evolves (t.resetAll (Mem.writeCells t.mem cs)) :=
  (h.reset cs (Nat.zero_le _)).outside ..

theorem clearPart (h : s.Evolves t) (landed : List Host.Cell) : s.Evolves (t.clearPart landed) := by
  unfold State.clearPart
  split
  · exact (h.reset (landed.filter t.lands) le_rfl).outside ..
  · exact h.outside ..

theorem beginDrain (h : s.Evolves t) : s.Evolves t.beginDrain := by
  apply drainWork
  exact (h.mapCtxs_keeps (f := fun _ c => { c with idleDue := false }) fun _ _ => rfl).outside ..

theorem runOn (h : s.Evolves t) : s.Evolves t.runOn := by
  unfold State.runOn
  repeat' split
  all_goals exact h

theorem runOff (h : s.Evolves t) : s.Evolves t.runOff := by
  unfold State.runOff
  repeat' split
  · exact h
  · exact h
  · exact h.beginDrain
  · exact h
  · exact h

theorem runPart (h : s.Evolves t) (v : Bool) : s.Evolves (t.runPart v) := by
  cases v
  · apply runOff
    exact h.outside ..
  · apply runOn
    exact h.outside ..

theorem coldLane (h : s.Evolves t) (l : LaneId) (bad : Bool) (d : Descriptor) : s.Evolves (t.coldLane l bad d) := by
  unfold State.coldLane
  repeat' split
  · exact h.laneFault l _
  · exact h.modLane l _
  · exact h.laneFault l _
  · exact h.modLane l _

theorem startDone (h : s.Evolves t) : s.Evolves t.startDone := by
  unfold State.startDone
  dsimp only
  split
  · apply beginDrain
    exact h.outside ..
  · exact h.outside ..

/-! #### Scan passes, looks and lanes -/

theorem issueAt (h : s.Evolves t) (p : PassPos) : s.Evolves (t.issueAt p) := by
  cases p with
  | lane l =>
    apply modLane
    exact h.outside ..
  | ctx k => exact h.outside ..
  | lot i => exact h.outside ..

theorem passOver (h : s.Evolves t) (ps : List PassPos) : s.Evolves (t.passOver ps) := by
  unfold State.passOver
  split
  · exact h.issueAt _
  · exact h.outside ..

theorem passNext (h : s.Evolves t) (p : PassPos) : s.Evolves (t.passNext p) := by
  have hover := h.passOver (passOrder.drop (p.rank + 1))
  unfold State.passNext
  dsimp only
  split
  · split
    · apply passOver
      exact hover.outside ..
    · exact hover
  · exact h.outside ..

theorem scanNowPart (h : s.Evolves t) : s.Evolves t.scanNowPart := by
  unfold State.scanNowPart
  split
  · split
    · exact h.outside ..
    · exact h.passOver _
  · exact h

theorem timerExpires (h : s.Evolves t) : s.Evolves t.timerExpires := by
  unfold State.timerExpires
  dsimp only
  split
  · exact h.outside ..
  · apply passOver
    exact h.outside ..

theorem chainLook (h : s.Evolves t) (l : LaneId) : s.Evolves (t.chainLook l) := by
  unfold State.chainLook
  split
  · exact h.modLane l _
  · exact h

theorem lookDone (h : s.Evolves t) (l : LaneId) (b : Bool) : s.Evolves (t.lookDone l b) := by
  cases b
  · exact h
  · exact h.passNext _

theorem lookAction (h : s.Evolves t) (l : LaneId) (k : Look) (bad : Bool) : s.Evolves (t.lookAction l k bad) := by
  have hclear : s.Evolves (t.clearLook l) := h.modLane l _
  unfold State.lookAction
  dsimp only
  repeat' split
  · exact hclear.lookDone l _
  · exact (hclear.laneFault l _).lookDone l _
  · exact hclear.lookDone l _
  · exact h.modLane l _
  · exact (hclear.modLane l _).lookDone l _
  · exact h.modLane l _
  · exact (hclear.laneFault l _).lookDone l _

theorem lookAnswered (h : s.Evolves t) (l : LaneId) (k : Look) : s.Evolves (t.lookAnswered l k) := by
  have hclear : s.Evolves (t.clearLook l) := h.modLane l _
  unfold State.lookAnswered
  dsimp only
  split
  · exact hclear
  · split
    · exact ((hclear.modLane l _).setHandback l).chainLook l
    · exact hclear.laneFault l _
    · exact hclear

theorem dropWaiter (h : s.Evolves t) (l : LaneId) : s.Evolves (t.dropWaiter l) := (h.leaveWaiters l).wakeRecipeIf _

theorem retireStep1 (h : s.Evolves t) (l : LaneId) : s.Evolves (t.retireStep1 l) := by
  have hdropped := (h.modLane l Lane.retired).dropWaiter l
  unfold State.retireStep1
  dsimp only
  split
  · exact hdropped.closeContext _ _ _
  · exact hdropped

theorem carryOut (h : s.Evolves t) (l : LaneId) : s.Evolves (t.carryOut l) := by
  have hstep := h.retireStep1 l
  unfold State.carryOut
  dsimp only
  split
  · exact hstep.outside ..
  · exact hstep.outside ..

theorem readback (h : s.Evolves t) (code : CmdCode) (l : LaneId) (o : Outcome) : s.Evolves (t.readback code l o) := h.outside ..

theorem retireTaken (h : s.Evolves t) (l : LaneId) : s.Evolves (t.retireTaken l) := by
  unfold State.retireTaken
  split
  · exact h.outside ..
  · exact h.carryOut l

theorem laneCommandTaken (h : s.Evolves t) (code : CmdCode) (l : LaneId) : s.Evolves (t.laneCommandTaken code l) := by
  unfold State.laneCommandTaken
  repeat' split
  · exact h.outside ..
  · exact h.readback code l _
  · exact (h.modLane l _).readback code l _
  · exact h.readback code l _
  · exact (h.modLane l _).readback code l _
  · exact (h.modLane l _).readback code l _
  · exact h.readback code l _
  · exact h.retireTaken l

theorem laneCommand (h : s.Evolves t) (code : CmdCode) (l : LaneId) : s.Evolves (t.laneCommand code l) := by
  unfold State.laneCommand
  repeat' split
  · exact h.outside ..
  · exact h.readback code l _
  · exact h.readback code l _
  · exact h.laneCommandTaken code l

theorem enableLane (h : s.Evolves t) (l : LaneId) (bad : Bool) (d : Descriptor) : s.Evolves (t.enableLane l bad d) := by
  unfold State.enableLane
  repeat' split
  · exact h.laneFault l _
  · exact h.modLane l _
  · exact h.laneFault l _

theorem finishReturn (h : s.Evolves t) (l : LaneId) : s.Evolves (t.finishReturn l) :=
  ((h.modLane l _).setHandback l).chainLook l

theorem returnWritten (h : s.Evolves t) (l : LaneId) : s.Evolves (t.returnWritten l) := by
  unfold State.returnWritten
  split
  · exact (h.modLane l _).rewrite _ _
  · exact h.finishReturn l

end State.Evolves

/-! #### The Merge Engine -/

/-- The context at which the sites of a TOUCHDOWN stop or end. -/
def SitesEnd.ctx : SitesEnd → Ctx
  | .done c _ | .writeback c _ _ | .fetch c _ _ => c

/-- What bringing in a row leaves of the context; with a writeback to make first, the context itself. -/
def RowNeed.ctx (c : Ctx) : RowNeed → Ctx
  | .here d | .fetch d => d
  | .writeback => c

theorem bringClean_tally (r : Recipe) (c : Ctx) (y : RowId) : ((bringClean r c y).ctx c).tally = c.tally := by
  unfold bringClean
  split <;> rfl

theorem bringRow_tally (r : Recipe) (c : Ctx) (y : RowId) : ((bringRow r c y).ctx c).tally = c.tally := by
  unfold bringRow
  split
  · rfl
  · split
    · rfl
    · exact bringClean_tally r c y

namespace Ctx.Evolves

theorem countSite (r : Recipe) (c : Ctx) (cell : MapCell) (b : BinCode) : c.Evolves (countSite r c cell b) := by
  unfold Machine.countSite
  split
  · exact .countNew r c b
  · exact Ctx.Evolves.trans (d := c.retested) (.keeps rfl) (.countMove r _ _ _)
  · exact .keeps rfl
  · exact .refl c

theorem mergeSite (r : Recipe) (bs : List Byte) (i : SiteId) (x : Nat) (c : Ctx) : c.Evolves (mergeSite r bs i x c) :=
  (Ctx.Evolves.siteStats r c i _).trans ((Ctx.Evolves.countSite r _ _ _).then_keeps rfl)

theorem runSites (r : Recipe) (bs : List Byte) :
    ∀ (is : List SiteId) (c : Ctx) (ds : List SiteDisp), c.Evolves (runSites r bs is c ds).ctx
  | [], c, ds => .refl c
  | i :: is, c, ds => by
    unfold Machine.runSites
    split
    · split
      · exact runSites r bs is c _
      · next x y _ =>
        have hrow := bringRow_tally r c y
        split
        · next hneed =>
          rw [hneed] at hrow
          exact (Ctx.Evolves.keeps hrow).trans ((mergeSite r bs i x _).trans (runSites r bs is _ _))
        · exact .refl c
        · next hneed =>
          rw [hneed] at hrow
          exact .keeps hrow
    · exact runSites r bs is c _

theorem adjustCtx (r : Recipe) (c : Ctx) (x : Nat) (b : BinCode) : c.Evolves (adjustCtx r c x b) := by
  unfold Machine.adjustCtx
  dsimp only
  split
  · exact (Ctx.Evolves.countNew r c b).then_keeps rfl
  · exact (Ctx.Evolves.countMove r c _ b).then_keeps rfl
  · exact (Ctx.Evolves.countMove r c _ b).then_keeps rfl
  · exact .keeps rfl

end Ctx.Evolves

namespace State.Evolves

variable {s t : State}

theorem dispose (h : s.Evolves t) (m : Merge) (code : Byte) : s.Evolves (t.dispose m code) := h.outside ..

theorem conclude (h : s.Evolves t) (m : Merge) (w : Option Word) (code : Byte) : s.Evolves (t.conclude m w code) := by
  cases w <;> exact h.outside ..

theorem awaitRewrite (h : s.Evolves t) (m : Merge) (k : CtxId) (w : Option Word) (code : Byte) :
    s.Evolves (t.awaitRewrite m k w code) := by
  apply rewrite
  exact h.outside ..

theorem evaluateMerge (h : s.Evolves t) (m : Merge) (k : CtxId) (w : Option Word) (code : Byte) :
    s.Evolves (t.evaluateMerge m k w code) := by
  have hset := (h.modCtx k (f := evaluated (t.recipeFor k)) (.evaluated _ _)).raiseEvents (t.ctxs[k]).lane (t.recipeFor k)
    (evaluationEvents (t.ctxs[k]).active (nextActiveSet (t.recipeFor k) t.ctxs[k]))
  unfold State.evaluateMerge
  dsimp only
  split
  · exact hset.awaitRewrite m k w code
  · exact hset.conclude m w code

theorem endMerge (h : s.Evolves t) (m : Merge) : s.Evolves (t.endMerge m) := by
  unfold State.endMerge
  dsimp only
  split
  · exact (h.modCtx_keeps (f := fun c => { c with inMerge := false }) _ fun _ => rfl).outside ..
  · exact h.outside ..

theorem touchdownEnd (h : s.Evolves t) (m : Merge) (k : CtxId) : s.Evolves (t.touchdownEnd m k) := by
  unfold State.touchdownEnd
  split
  · exact (h.modCtx_keeps (f := Ctx.touchRecorded m.bytes) k fun _ => rfl).evaluateMerge _ k _ _
  · exact h.dispose m _

/-- A context is replaced by what it has become. -/
theorem setCtx (h : s.Evolves t) (k : CtxId) {c : Ctx} (hc : (t.ctxs[k]).Evolves c) : s.Evolves (t.modCtx k fun _ => c) :=
  h.modCtx k hc

theorem continueTouchdown (h : s.Evolves t) (m : Merge) (k : CtxId) : s.Evolves (t.continueTouchdown m k) := by
  have hsites := Ctx.Evolves.runSites (t.recipeFor k) m.bytes ((List.finRange 16).drop m.disps.length) t.ctxs[k] m.disps
  unfold State.continueTouchdown
  split
  · next hend =>
    rw [hend] at hsites
    exact (h.setCtx k hsites).touchdownEnd _ k
  · next hend =>
    rw [hend] at hsites
    exact (h.setCtx k hsites).outside ..
  · next hend =>
    rw [hend] at hsites
    exact (h.setCtx k hsites).outside ..

theorem continueAdjust (h : s.Evolves t) (m : Merge) (k : CtxId) : s.Evolves (t.continueAdjust m k) := by
  unfold State.continueAdjust
  split
  · exact h.dispose m _
  · next x y _ =>
    have hrow := bringRow_tally (t.recipeFor k) t.ctxs[k] y
    split
    · next hneed =>
      rw [hneed] at hrow
      exact (h.setCtx k ((Ctx.Evolves.keeps hrow).trans (.adjustCtx _ _ x _))).evaluateMerge _ k _ _
    · exact h.outside ..
    · next hneed =>
      rw [hneed] at hrow
      exact (h.setCtx k (.keeps hrow)).outside ..

theorem continueMerge (h : s.Evolves t) (m : Merge) (k : CtxId) : s.Evolves (t.continueMerge m k) := by
  unfold State.continueMerge
  split
  · exact h.continueTouchdown m k
  · exact h.continueAdjust m k

theorem afterWriteback (h : s.Evolves t) (m : Merge) (k : CtxId) (y : RowId) : s.Evolves (t.afterWriteback m k y) := by
  have hrow := bringClean_tally (t.recipeFor k) t.ctxs[k] y
  unfold State.afterWriteback
  split
  · next hneed =>
    rw [hneed] at hrow
    exact (h.setCtx k (.keeps hrow)).continueMerge m k
  · next hneed =>
    rw [hneed] at hrow
    exact (h.setCtx k (.keeps hrow)).outside ..
  · exact h

theorem grantLane (h : s.Evolves t) (l : LaneId) : s.Evolves (t.grantLane l) := by
  unfold State.grantLane
  split
  · dsimp only
    split
    · exact (h.modCtx_keeps (f := fun c => { c with inMerge := true }) _ fun _ => rfl).outside ..
    · exact h.outside ..
  · exact h

/-! #### OPEN, rewrites and timers -/

theorem acceptOpen (h : s.Evolves t) (m : Merge) (k : CtxId) (e : EntryId) (lot : LotChoice) :
    s.Evolves (t.acceptOpen m k e lot) := by
  have hopened := ((h.modCtx k (f := Ctx.openedWith m e lot.id (t.cache[e]).copy) (.zeroed rfl)).pin e).modLane m.lane
    fun n => { n with ctx := some k }
  cases lot with
  | join i =>
    apply rewrite
    exact (hopened.modLot_keeps i (f := Lot.joined) (fun _ => rfl) fun _ => rfl).outside ..
  | create i =>
    apply rewrite
    exact (hopened.modLot i (f := Lot.created m (t.cache[e]).copy) (.zeroed rfl rfl)).outside ..

theorem leaveWaiting (h : s.Evolves t) (m : Merge) (w : LaneState) : s.Evolves (t.leaveWaiting m w) :=
  (h.endMerge m).modLane m.lane _

theorem applyOpen (h : s.Evolves t) (m : Merge) : ∀ d, s.Evolves (t.applyOpen m d)
  | .refuse d => h.dispose m d
  | .waitContext => h.leaveWaiting m _
  | .joinLoad e => (h.joinWaiters e m.lane).leaveWaiting m _
  | .startLoad e => (h.startLoad e _ m.lane).leaveWaiting m _
  | .waitRecipe => h.leaveWaiting m _
  | .accept k e lot => h.acceptOpen m k e lot

theorem executeOpen (h : s.Evolves t) (m : Merge) : s.Evolves (t.executeOpen m) :=
  (((h.leaveWaiters m.lane).applyOpen m _).wakeRecipeIf _).drainWork

theorem afterRewrite (h : s.Evolves t) (k : CtxId) (why : RewriteFor) : s.Evolves (t.afterRewrite k why) := by
  cases why with
  | merge =>
    dsimp only [State.afterRewrite]
    repeat' split
    · exact h.conclude _ _ _
    · exact h
    · exact h
  | halfReturn l => exact h.finishReturn l
  | closeStep => exact h.closeTotals k
  | nothing => exact h

theorem secondPasses (h : s.Evolves t) : s.Evolves t.secondPasses := by
  refine (h.mapCtxs_keeps (f := fun _ c => c.secondPassed) fun _ c => ?_).outside ..
  unfold Ctx.secondPassed
  repeat' split
  all_goals rfl

theorem expiryOver (h : s.Evolves t) (k : CtxId) : s.Evolves (t.expiryOver k) := h.modCtx_keeps k fun _ => rfl

theorem assertIdle (h : s.Evolves t) (k : CtxId) : s.Evolves (t.assertIdle k) := by
  have hset := (h.modCtx k (f := fun c => { c with
    active := { c.active with idle := true }, latched := { c.latched with idle := true } }) (.idleAsserted _)).raiseEvents
      (t.ctxs[k]).lane (t.recipeFor k) [⟨.idle, true⟩]
  unfold State.assertIdle
  dsimp only
  split
  · exact hset.rewrite k _
  · exact hset

theorem expire (h : s.Evolves t) (k : CtxId) : s.Evolves (t.expire k) := by
  unfold State.expire
  split
  · apply closeContext
    exact h.modCtx k (.idleLatched _)
  · split
    · exact h
    · exact h.assertIdle k

theorem hallTick (h : s.Evolves t) : s.Evolves t.hallTick := by
  unfold State.hallTick
  split
  · dsimp only
    split
    · split
      · exact h.timerExpires.secondPasses
      · apply secondPasses
        exact h.outside ..
    · split
      · exact h.timerExpires.outside ..
      · exact h.outside ..
  · exact h

/-! #### Registers and the Probe Window -/

theorem probeStore (h : s.Evolves t) {u : State} (hu : t.probeStore = some u) : s.Evolves u := by
  unfold State.probeStore at hu
  dsimp only at hu
  split at hu
  · split at hu
    · split at hu
      · obtain rfl := Option.some.inj hu
        exact (h.modCtx_keeps (f := Ctx.limitWritten t.probe.store) _ fun _ => rfl).outside ..
      · cases hu
    · cases hu
  · split at hu
    · split at hu
      · obtain rfl := Option.some.inj hu
        exact h.modLane _ _
      · cases hu
    · cases hu

theorem flushPart (h : s.Evolves t) : s.Evolves t.flushPart := by
  unfold State.flushPart
  split
  · exact h.flush
  · exact h.outside ..

/-- A part of a CONTROL write that its mask may select. -/
theorem part (h : s.Evolves t) (b : Bool) {u : State} (hu : s.Evolves u) : s.Evolves (if b = true then u else t) := by
  split
  · exact hu
  · exact h

theorem controlWrite (h : s.Evolves t) (v : Word) : s.Evolves (t.controlWrite v) := by
  have hclear := h.part (v.getLsbD (16 + 2) && v.getLsbD 2) (h.clearPart [])
  have hrun := hclear.part (v.getLsbD (16 + 0)) (hclear.runPart (v.getLsbD 0))
  have hflush := hrun.part (v.getLsbD (16 + 3) && v.getLsbD 3) hrun.flushPart
  have hscan := hflush.part (v.getLsbD (16 + 1) && v.getLsbD 1) hflush.scanNowPart
  exact hscan.outside ..

theorem registerWritten (h : s.Evolves t) (offset : Nat) (v : Word) : s.Evolves (t.registerWritten offset v) := by
  unfold State.registerWritten
  repeat' split
  · exact h.controlWrite v
  · unfold State.commonBasePart
    split <;> exact h.outside ..
  · exact h.laneCommand _ _
  · exact h.outside ..
  · exact h.outside ..
  · unfold State.probeAddr
    split <;> exact h.outside ..
  · exact h.outside ..
  · exact h

end State.Evolves

/-! ### Every command and every step -/

/-- Where an outcome is a next state, that state meets `P`. -/
def leadsTo (o : Host.Outcome State Fault Refusal) (P : State → Prop) : Prop :=
  match o with
  | .next t => P t
  | .fault _ | .refused _ => True

theorem of_leadsTo {o : Host.Outcome State Fault Refusal} {P : State → Prop} {t : State} (h : leadsTo o P)
    (ho : o = .next t) : P t := by
  rw [ho] at h
  exact h

variable (s : State)

/-! #### Engine Control and the registers -/

theorem execCommonHeaderRead_evolves (bad : Bool) : leadsTo (execCommonHeaderRead bad s) s.Evolves := by
  have h := State.Evolves.refl s
  unfold execCommonHeaderRead
  dsimp only
  repeat' split
  · exact h.outside ..
  · apply State.Evolves.announce
    exact h.outside ..
  · exact h

theorem execColdDescriptorRead_evolves (bad : Bool) : leadsTo (execColdDescriptorRead bad s) s.Evolves := by
  unfold execColdDescriptorRead
  split
  · next l _ =>
    have hlane := (State.Evolves.refl s).coldLane l bad (descriptorOf (memSrc s.mem (s.descriptorAddr l)))
    split
    · dsimp only
      split
      · apply State.Evolves.announce
        exact hlane.outside ..
      · exact hlane.startDone.announce s
    · exact .refl s
  · exact .refl s

theorem execDrainEnd_evolves : leadsTo (execDrainEnd s) s.Evolves := by
  have h := State.Evolves.refl s
  unfold execDrainEnd
  repeat' split
  · exact h.outside ..
  · apply State.Evolves.announce
    exact h.outside ..
  · exact h

theorem execRegisterWrite_evolves (offset bytes : Nat) (v : Word) : leadsTo (execRegisterWrite offset bytes v s) s.Evolves := by
  have h := State.Evolves.refl s
  unfold execRegisterWrite
  split
  · unfold State.narrowWritten
    repeat' split
    all_goals exact h
  · exact (h.registerWritten offset v).announce s

theorem probeAddr_evolves (word : BitVec 11) (index : BitVec 5) (region : BitVec 3) (w : Bool) :
    s.Evolves (s.probeAddr word index region w) := by
  unfold State.probeAddr
  split <;> exact (State.Evolves.refl s).outside ..

theorem execProbeReadAnswer_evolves : leadsTo (execProbeReadAnswer s) s.Evolves := by
  have h := State.Evolves.refl s
  unfold execProbeReadAnswer
  repeat' split
  all_goals exact h

theorem execProbeWriteStore_evolves : leadsTo (execProbeWriteStore s) s.Evolves := by
  have h := State.Evolves.refl s
  unfold execProbeWriteStore
  split
  · split
    · next hstore => exact (h.probeStore hstore).outside ..
    · exact h
  · exact h

theorem execMemoryWindowWrite_evolves (addr : Word) (data : List Byte) :
    leadsTo (execMemoryWindowWrite addr data s) s.Evolves := by
  unfold execMemoryWindowWrite
  split
  · exact (State.Evolves.refl s).store _ _
  · trivial

/-! #### Timers, looks and slot reads -/

theorem execScanTimerExpiry_evolves : leadsTo (execScanTimerExpiry s) s.Evolves := by
  unfold execScanTimerExpiry
  split
  · exact (State.Evolves.refl s).timerExpires
  · exact .refl s

theorem execSecondEvent_evolves : leadsTo (execSecondEvent s) s.Evolves := by
  unfold execSecondEvent
  split
  · exact (State.Evolves.refl s).secondPasses
  · exact .refl s

theorem execIdleExpiry_evolves (k : CtxId) : leadsTo (execIdleExpiry k s) s.Evolves := by
  have h := (State.Evolves.refl s).expiryOver k
  unfold execIdleExpiry
  repeat' split
  · exact h
  · exact (h.expire k).announce s
  · exact .refl s

theorem execLook_evolves (l : LaneId) (bad : Bool) : leadsTo (execLook l bad s) s.Evolves := by
  unfold execLook
  repeat' split
  · exact ((State.Evolves.refl s).lookAction l _ bad).announce s
  · exact .refl s
  · exact .refl s

theorem execLookReturnWritten_evolves (l : LaneId) : leadsTo (execLookReturnWritten l s) s.Evolves := by
  unfold execLookReturnWritten
  repeat' split
  · exact ((((State.Evolves.refl s).storeOpt _).lookAnswered l _).lookDone l _).announce s
  · exact .refl s
  · exact .refl s

theorem execSummarySlotRead_evolves (k : CtxId) (r : ReadEnd) : leadsTo (execSummarySlotRead k r s) s.Evolves := by
  have h := State.Evolves.refl s
  unfold execSummarySlotRead
  repeat' split
  · exact (h.engineFault _ _).announce s
  · exact (h.modCtx_keeps (f := fun c => { c with state := .free }) k fun _ => rfl).wakeContext.passNext _
  · exact h.passNext _
  · exact h

theorem execLotSlotRead_evolves (i : LotId) (r : ReadEnd) : leadsTo (execLotSlotRead i r s) s.Evolves := by
  have h := State.Evolves.refl s
  unfold execLotSlotRead
  repeat' split
  · exact (h.engineFault _ _).announce s
  · exact (h.modLot_keeps (f := fun t => { t with state := .free }) i (fun _ => rfl) fun _ => rfl).passNext _
  · exact h.passNext _
  · exact h

/-! #### The record in merge -/

theorem execGrant_evolves : leadsTo (execGrant s) s.Evolves := by
  unfold execGrant
  split
  · exact (State.Evolves.refl s).grantLane _
  · exact .refl s

theorem execOpenRecord_evolves : leadsTo (execOpenRecord s) s.Evolves := by
  unfold execOpenRecord
  split
  · exact .refl s
  · exact (State.Evolves.refl s).executeOpen _

theorem execTouchdown_evolves : leadsTo (execTouchdown s) s.Evolves := by
  have h := State.Evolves.refl s
  unfold execTouchdown
  repeat' split
  · exact h
  · exact h.dispose _ _
  · exact h.dispose _ _
  · exact (h.continueTouchdown _ _).announce s

theorem execAdjust_evolves : leadsTo (execAdjust s) s.Evolves := by
  have h := State.Evolves.refl s
  unfold execAdjust
  repeat' split
  · exact h
  · exact h.dispose _ _
  · exact h.dispose _ _
  · exact (h.continueAdjust _ _).announce s

theorem execClose_evolves : leadsTo (execClose s) s.Evolves := by
  have h := State.Evolves.refl s
  unfold execClose
  repeat' split
  · exact h
  · exact h.dispose _ _
  · exact h.dispose _ _
  · apply State.Evolves.announce
    apply State.Evolves.closeContext
    exact h.outside ..

theorem execLotEnd_evolves : leadsTo (execLotEnd s) s.Evolves := by
  have h := State.Evolves.refl s
  unfold execLotEnd
  repeat' split
  · exact h
  · exact h.dispose _ _
  · exact h.dispose _ _
  · exact (((h.modLot_keeps (f := fun t => { t with state := .ending, endingLane := _ }) _ (fun _ => rfl) fun _ => rfl).enqueue
      _).dispose _ _).announce s

theorem execNop_evolves : leadsTo (execNop s) s.Evolves := by
  unfold execNop
  split
  · exact .refl s
  · exact (State.Evolves.refl s).dispose _ _

theorem execBadKind_evolves : leadsTo (execBadKind s) s.Evolves := by
  unfold execBadKind
  split
  · exact .refl s
  · exact (State.Evolves.refl s).dispose _ _

theorem execRecordReadError_evolves : leadsTo (execRecordReadError s) s.Evolves := by
  have h := State.Evolves.refl s
  unfold execRecordReadError
  repeat' split
  all_goals exact h

theorem execHalfFaultedReturnWritten_evolves : leadsTo (execHalfFaultedReturnWritten s) s.Evolves := by
  unfold execHalfFaultedReturnWritten
  repeat' split
  · exact ((((((State.Evolves.refl s).storeOpt _).modLane _ _).laneFault _ _).endMerge _).drainWork).announce s
  · exact .refl s
  · exact .refl s

theorem execRowWritebackDone_evolves : leadsTo (execRowWritebackDone s) s.Evolves := by
  unfold execRowWritebackDone
  repeat' split
  · exact ((((State.Evolves.refl s).storeOpt _).windowClean _).afterWriteback _ _ _).announce s
  all_goals exact .refl s

theorem execRowFetchDone_evolves (r : ReadEnd) : leadsTo (execRowFetchDone r s) s.Evolves := by
  have h := State.Evolves.refl s
  unfold execRowFetchDone
  repeat' split
  · exact (h.engineFault _ _).announce s
  · exact ((h.modCtx_keeps (f := Ctx.fetched _ _) _ fun _ => rfl).continueMerge _ _).announce s
  all_goals exact h

theorem execSiteWordWritten_evolves : leadsTo (execSiteWordWritten s) s.Evolves := by
  unfold execSiteWordWritten
  repeat' split
  · exact ((State.Evolves.refl s).storeOpt _).dispose _ _
  all_goals exact .refl s

theorem execDispositionWritten_evolves : leadsTo (execDispositionWritten s) s.Evolves := by
  unfold execDispositionWritten
  repeat' split
  · exact ((((State.Evolves.refl s).storeOpt _).endMerge _).modLane _ _).drainWork
  all_goals exact .refl s

theorem execHandoverLiveWritten_evolves : leadsTo (execHandoverLiveWritten s) s.Evolves := by
  have h (w : Option (Nat × List Byte)) := (State.Evolves.refl s).storeOpt w
  unfold execHandoverLiveWritten
  repeat' split
  · exact (h _).outside ..
  · exact .refl s
  · apply State.Evolves.kickSlot
    exact (h _).outside ..
  all_goals exact .refl s

/-! #### Slots, lanes and recipes -/

theorem execLiveGenOddWritten_evolves (k : CtxId) : leadsTo (execLiveGenOddWritten k s) s.Evolves := by
  unfold execLiveGenOddWritten
  repeat' split
  · exact ((State.Evolves.refl s).storeOpt _).modCtx_keeps k fun _ => rfl
  all_goals exact .refl s

theorem execLiveContentsWritten_evolves (k : CtxId) : leadsTo (execLiveContentsWritten k s) s.Evolves := by
  unfold execLiveContentsWritten
  repeat' split
  · exact ((State.Evolves.refl s).storeOpt _).modCtx_keeps k fun _ => rfl
  all_goals exact .refl s

theorem execLiveBlockWritten_evolves (k : CtxId) : leadsTo (execLiveBlockWritten k s) s.Evolves := by
  unfold execLiveBlockWritten
  repeat' split
  · exact (((((((State.Evolves.refl s).storeOpt _).modCtx_keeps (f := fun c => { c with generation := c.generation + 2 }) k
      fun _ => rfl).dropJob k).afterRewrite k _).kickSlot k)).announce s
  all_goals exact .refl s

theorem execHalfReturnWritten_evolves (l : LaneId) : leadsTo (execHalfReturnWritten l s) s.Evolves := by
  unfold execHalfReturnWritten
  split
  · exact (((State.Evolves.refl s).storeOpt _).returnWritten l).announce s
  · exact .refl s

theorem execRetireCarryOut_evolves : leadsTo (execRetireCarryOut s) s.Evolves := by
  unfold execRetireCarryOut
  repeat' split
  · exact ((State.Evolves.refl s).carryOut _).drainWork.announce s
  all_goals exact .refl s

theorem execSkippedWritten_evolves : leadsTo (execSkippedWritten s) s.Evolves := by
  unfold execSkippedWritten
  repeat' split
  · exact (((State.Evolves.refl s).storeCells s.retireCells).modLane _ Lane.skipped).outside ..
  all_goals exact .refl s

theorem execRetireReturnWritten_evolves : leadsTo (execRetireReturnWritten s) s.Evolves := by
  unfold execRetireReturnWritten
  repeat' split
  · apply State.Evolves.announce
    apply State.Evolves.drainWork
    exact ((((State.Evolves.refl s).storeCells s.retireCells).modLane _ fun n => { n with inService := none }).setHandback
      _).outside ..
  all_goals exact .refl s

theorem execEnableDescriptorRead_evolves (bad : Bool) : leadsTo (execEnableDescriptorRead bad s) s.Evolves := by
  unfold execEnableDescriptorRead
  repeat' split
  · apply State.Evolves.announce
    exact ((State.Evolves.refl s).enableLane _ bad _).outside ..
  all_goals exact .refl s

theorem execRecipeLoadDone_evolves (e : EntryId) (early : List Host.Cell) (r : ReadEnd) :
    leadsTo (execRecipeLoadDone e early r s) s.Evolves := by
  unfold execRecipeLoadDone
  repeat' split
  · exact ((State.Evolves.refl s).engineFault _ _).announce s
  · exact (State.Evolves.refl s).finishLoad e _
  all_goals exact .refl s

theorem execTrendWritebackDone_evolves (e : EntryId) : leadsTo (execTrendWritebackDone e s) s.Evolves := by
  unfold execTrendWritebackDone
  repeat' split
  · exact (State.Evolves.refl s).trendDone e _
  all_goals exact .refl s

/-! #### The Close Unit -/

theorem execCloseWindowWritten_evolves : leadsTo (execCloseWindowWritten s) s.Evolves := by
  unfold execCloseWindowWritten
  repeat' split
  · exact ((((State.Evolves.refl s).storeOpt _).windowClean _).closeRows _).announce s
  all_goals exact .refl s

theorem execMaterializeRowWritten_evolves : leadsTo (execMaterializeRowWritten s) s.Evolves := by
  unfold execMaterializeRowWritten
  repeat' split
  · apply State.Evolves.announce
    apply State.Evolves.closeRows
    exact ((State.Evolves.refl s).storeOpt _).modCtx_keeps _ fun _ => rfl
  all_goals exact .refl s

theorem execSummaryWritten_evolves : leadsTo (execSummaryWritten s) s.Evolves := by
  unfold execSummaryWritten
  repeat' split
  · apply State.Evolves.addJob
    exact (((State.Evolves.refl s).storeOpt _).dropJob _).outside ..
  all_goals exact .refl s

theorem execPostedWritten_evolves : leadsTo (execPostedWritten s) s.Evolves := by
  unfold execPostedWritten
  repeat' split
  · exact ((((((State.Evolves.refl s).storeOpt _).dropJob _).kickSlot _).contextClosed _).nextItem.drainWork).announce s
  all_goals exact .refl s

theorem execLotSummaryWritten_evolves : leadsTo (execLotSummaryWritten s) s.Evolves := by
  unfold execLotSummaryWritten
  repeat' split
  · exact ((State.Evolves.refl s).storeOpt s.closeWrite).outside ..
  all_goals exact .refl s

theorem execLotPostedWritten_evolves : leadsTo (execLotPostedWritten s) s.Evolves := by
  unfold execLotPostedWritten
  repeat' split
  · apply State.Evolves.announce
    apply State.Evolves.drainWork
    apply State.Evolves.nextItem
    apply State.Evolves.setClose
    exact ((State.Evolves.refl s).storeOpt _).modLot_keeps _ (fun _ => rfl) fun _ => rfl
  all_goals exact .refl s

theorem execDrainWindowWritten_evolves (k : CtxId) : leadsTo (execDrainWindowWritten k s) s.Evolves := by
  unfold execDrainWindowWritten
  split
  · refine ((State.Evolves.refl s).storeOpt _).modCtx_keeps k fun c => ?_
    unfold Ctx.windowClean
    split <;> rfl
  · exact .refl s

/-- What one command can do to the tables that the invariants speak of. -/
theorem exec_evolves (c : Instr) : leadsTo (exec c s) s.Evolves := by
  have h := State.Evolves.refl s
  cases c with
  | powerOnReset dram => exact h.resetAll dram
  | portReset landed => exact h.resetAll _
  | run v => exact h.runPart v
  | scanNow => exact h.scanNowPart
  | clear landed => exact h.clearPart landed
  | flushRecipes => exact h.flushPart
  | interruptEnables mask value => exact State.Evolves.announce (t := s.enablesPart mask value) h s
  | interruptMode each => exact h
  | commonBase v =>
    show s.Evolves (s.commonBasePart v)
    unfold State.commonBasePart
    split <;> exact h
  | enable l => exact h.laneCommand _ l
  | disable l => exact h.laneCommand _ l
  | hold l => exact h.laneCommand _ l
  | release l => exact h.laneCommand _ l
  | retire l => exact (h.laneCommand _ l).announce s
  | badCommand code l => exact (h.laneCommand code l).announce s
  | noticeClear hi bits => exact h
  | engineStateRead first bytes => exact h
  | probeRead word index region => exact probeAddr_evolves s word index region false
  | probeWrite word index region => exact probeAddr_evolves s word index region true
  | registerWrite offset bytes v => exact execRegisterWrite_evolves s offset bytes v
  | probeReadAnswer => exact execProbeReadAnswer_evolves s
  | probeWriteStore => exact execProbeWriteStore_evolves s
  | scanTimerExpiry => exact execScanTimerExpiry_evolves s
  | secondEvent => exact execSecondEvent_evolves s
  | idleExpiry k => exact execIdleExpiry_evolves s k
  | look l bad => exact execLook_evolves s l bad
  | lookReturnWritten l => exact execLookReturnWritten_evolves s l
  | summarySlotRead k r => exact execSummarySlotRead_evolves s k r
  | lotSlotRead i r => exact execLotSlotRead_evolves s i r
  | grant => exact execGrant_evolves s
  | openRecord => exact execOpenRecord_evolves s
  | touchdown => exact execTouchdown_evolves s
  | adjust => exact execAdjust_evolves s
  | close => exact execClose_evolves s
  | lotEnd => exact execLotEnd_evolves s
  | nop => exact execNop_evolves s
  | badKind => exact execBadKind_evolves s
  | recordReadError => exact execRecordReadError_evolves s
  | rowWritebackDone => exact execRowWritebackDone_evolves s
  | rowFetchDone r => exact execRowFetchDone_evolves s r
  | siteWordWritten => exact execSiteWordWritten_evolves s
  | dispositionWritten => exact execDispositionWritten_evolves s
  | handoverLiveWritten => exact execHandoverLiveWritten_evolves s
  | liveGenOddWritten k => exact execLiveGenOddWritten_evolves s k
  | liveContentsWritten k => exact execLiveContentsWritten_evolves s k
  | liveBlockWritten k => exact execLiveBlockWritten_evolves s k
  | halfReturnWritten l => exact execHalfReturnWritten_evolves s l
  | retireCarryOut => exact execRetireCarryOut_evolves s
  | skippedWritten => exact execSkippedWritten_evolves s
  | retireReturnWritten => exact execRetireReturnWritten_evolves s
  | recipeLoadDone e early r => exact execRecipeLoadDone_evolves s e early r
  | trendWritebackDone e => exact execTrendWritebackDone_evolves s e
  | closeWindowWritten => exact execCloseWindowWritten_evolves s
  | materializeRowWritten => exact execMaterializeRowWritten_evolves s
  | summaryWritten => exact execSummaryWritten_evolves s
  | postedWritten => exact execPostedWritten_evolves s
  | lotSummaryWritten => exact execLotSummaryWritten_evolves s
  | lotPostedWritten => exact execLotPostedWritten_evolves s
  | drainWindowWritten k => exact execDrainWindowWritten_evolves s k
  | drainEnd => exact execDrainEnd_evolves s
  | commonHeaderRead bad => exact execCommonHeaderRead_evolves s bad
  | coldDescriptorRead bad => exact execColdDescriptorRead_evolves s bad
  | enableDescriptorRead bad => exact execEnableDescriptorRead_evolves s bad
  | interruptMessageSent =>
    exact Tables.Evolves.trans h ⟨fun _ => .refl _, fun _ => .keeps rfl rfl, id, id, (Nat.sub_le _ _).trans⟩
  | halfFaultedReturnWritten => exact execHalfFaultedReturnWritten_evolves s
  | memoryWindowWrite addr data => exact execMemoryWindowWrite_evolves s addr data

variable {s}

/-- What one step can do to the tables that the invariants speak of. -/
theorem step_evolves {t : State} (h : step s = .next t) : s.Evolves t := by
  unfold step at h
  split at h
  · next c cs _ => exact of_leadsTo (exec_evolves { s with pending := cs } c) h
  · obtain rfl := Host.Outcome.next.inj h
    exact (State.Evolves.refl s).hallTick

/-! ### The statements -/

/-- Settles O53: every write into memory keeps the canonical form. -/
theorem memoryKeepsItsForm : Obligations.MemoryKeepsItsForm := fun _ _ hs h => (step_evolves h).mem hs

/-- Settles O54, by what a step can do to the counts of one context and of one lot entry. -/
theorem countsStayConsistent : Obligations.CountsStayConsistent := fun _ _ ⟨hctxs, hlots⟩ h =>
  ⟨fun k => ((step_evolves h).ctxs k).countsAgree (hctxs k), fun i => ((step_evolves h).lots i).totalsAgree hctxs (hlots i)⟩

/-- Settles O55, by what a step can do to the monitor sets of one context. -/
theorem latchedKeepsActive : Obligations.LatchedKeepsActive := fun _ _ hs h k =>
  ((step_evolves h).ctxs k).latchedHoldsActive (hs k)

/-- Settles O56, by what a step can do to the site statistics of one context. -/
theorem tablesStayInRange : Obligations.TablesStayInRange := fun _ _ ⟨hsites, hlastUse, hmessages⟩ h =>
  ⟨fun k => ((step_evolves h).ctxs k).sitesInRange (hsites k), (step_evolves h).lastUse hlastUse,
    (step_evolves h).messages hmessages⟩

/-- Settles O57: every context and lot entry is reset to zero counts. -/
theorem resetIsSound : Obligations.ResetIsSound := by
  have hctx (k : CtxId) : State.reset.ctxs[k] = Ctx.reset := by simp [State.reset]
  have hlot (i : LotId) : State.reset.lots[i] = Lot.reset := by simp [State.reset]
  refine ⟨⟨rfl, ⟨fun k => ?_, fun i => ?_⟩, fun k => ?_, fun k => ?_, .of_eq rfl, Nat.zero_le _⟩, nofun⟩
  · rw [hctx]
    exact binSum_reset
  · rw [hlot]
    exact binSum_reset
  · rw [hctx]
    exact ⟨id, id, id, id, fun _ => id, fun _ => id⟩
  · rw [hctx]
    intro i
    simp [Ctx.reset]

end Sys2Proof.Machine
end

section
/-!
PROOFS. Interrupt messages (R163): an event that sets no flag raises none, and every other event counts what it raised at its
end (`announce`). They settle O58.
-/

namespace Sys2Proof.Machine

/-! ### Events that set no flag -/

/-- No flag of a lane is set in `n` but not in `m`. -/
def LaneNotice.within (n m : LaneNotice) : Prop :=
  (n.handback = true → m.handback = true) ∧ (n.close = true → m.close = true) ∧ (n.alarm = true → m.alarm = true) ∧
    (n.fault = true → m.fault = true)

/-- From `s` to `t` the enables and the messages held stay, and no flag goes from clear to set. -/
structure State.Quiet (s t : State) : Prop where
  messages : t.messages = s.messages
  enables  : t.control.ien = s.control.ien
  notices  : ∀ l : LaneId, (t.notices[l]).within s.notices[l]
  drained  : t.flags.drained = true → s.flags.drained = true
  engine   : t.flags.engine = true → s.flags.engine = true

/-- One flag before and after a quiet event. -/
def flagKept (before after : Bool × Bool) : Prop := after.1 = before.1 ∧ (after.2 = true → before.2 = true)

theorem laneFlags_kept (en : Enables) {n m : LaneNotice} (h : n.within m) :
    List.Forall₂ flagKept (laneFlags en m) (laneFlags en n) := by
  obtain ⟨hhandback, hclose, halarm, hfault⟩ := h
  exact .cons ⟨rfl, hhandback⟩ (.cons ⟨rfl, hclose⟩ (.cons ⟨rfl, halarm⟩ (.cons ⟨rfl, hfault⟩ .nil)))

theorem State.Quiet.flagList_kept {s t : State} (h : s.Quiet t) : List.Forall₂ flagKept s.flagList t.flagList := by
  have hlanes : List.Forall₂ (fun m n => LaneNotice.within n m) s.notices.toList t.notices.toList := by
    rw [List.forall₂_iff_get]
    refine ⟨by simp, fun i hs _ => ?_⟩
    simpa using h.notices ⟨i, by simpa using hs⟩
  unfold State.flagList
  rw [h.enables]
  exact List.rel_append (List.rel_flatMap hlanes fun _ _ hw => laneFlags_kept _ hw)
    (.cons ⟨rfl, h.drained⟩ (.cons ⟨rfl, h.engine⟩ .nil))

theorem newlySet_of_kept {before after : List (Bool × Bool)} (h : List.Forall₂ flagKept before after) :
    (before.zip after).countP (fun p => !p.1.2 && p.2.2 && p.2.1) = 0 := by
  induction h with
  | nil => rfl
  | cons hp _ ih =>
    obtain ⟨-, hset⟩ := hp
    rw [List.zip_cons_cons, List.countP_cons_of_neg, ih]
    simpa using fun hclear hafter => absurd (hset hafter) (by simp [hclear])

theorem pend_of_kept {before after : List (Bool × Bool)} (h : List.Forall₂ flagKept before after)
    (hp : after.any (fun p => p.1 && p.2) = true) : before.any (fun p => p.1 && p.2) = true := by
  induction h with
  | nil => exact hp
  | cons hp' _ ih =>
    obtain ⟨henabled, hset⟩ := hp'
    simp only [List.any_cons, Bool.or_eq_true, Bool.and_eq_true] at hp ⊢
    exact hp.imp (fun ⟨h1, h2⟩ => ⟨henabled ▸ h1, hset h2⟩) ih

theorem State.Quiet.messagesRaised {s t : State} (h : s.Quiet t) : messagesRaised s t = 0 := by
  have hkept := h.flagList_kept
  unfold Machine.messagesRaised
  split
  · exact newlySet_of_kept hkept
  · refine if_neg fun hpend => ?_
    rw [Bool.and_eq_true, Bool.not_eq_true'] at hpend
    exact Bool.false_ne_true (hpend.1.symm.trans (pend_of_kept hkept hpend.2))

/-! ### The messages after an event -/

/-- The messages held in `t` are those of `s` and those that the event raised, up to the 8 that are held. -/
def State.Follows (s t : State) : Prop :=
  s.messages ≤ Config.messageCapacity → t.messages = min Config.messageCapacity (s.messages + messagesRaised s t)

theorem State.Quiet.follows {s t : State} (h : s.Quiet t) : s.Follows t := by
  intro hs
  rw [h.messages, h.messagesRaised, Nat.add_zero, min_eq_right hs]

/-- An event that ends by counting its messages. -/
theorem follows_announce {s u : State} (h : u.messages = s.messages) : s.Follows (announce s u) := by
  intro hs
  show max u.messages (min Config.messageCapacity (u.messages + Machine.messagesRaised s u)) =
    min Config.messageCapacity (s.messages + Machine.messagesRaised s u)
  rw [h]
  omega

theorem State.Quiet.refl (s : State) : s.Quiet s := ⟨rfl, rfl, fun _ => ⟨id, id, id, id⟩, id, id⟩

theorem follows_refl (s : State) : s.Follows s := (State.Quiet.refl s).follows

/-- An event that leaves the notices and everything that `Base` lists, collation memory aside. -/
theorem follows_of_base {s t : State} (hn : t.notices = s.notices)
    (hb : { t.base with mem := s.mem, past := s.past } = s.base) : s.Follows t := by
  have hmessages : t.messages = s.messages := congrArg Base.messages hb
  have hcontrol : t.control = s.control := congrArg Base.control hb
  have hflags : t.flags = s.flags := congrArg Base.flags hb
  refine State.Quiet.follows ⟨hmessages, by rw [hcontrol], fun l => ?_, ?_, ?_⟩
  · rw [hn]
    exact ⟨id, id, id, id⟩
  · rw [hflags]
    exact id
  · rw [hflags]
    exact id

/-- An event that leaves the notices and everything that `Base` lists. -/
theorem follows_of_tables {s t : State} (hn : t.notices = s.notices) (hb : t.base = s.base) : s.Follows t :=
  follows_of_base hn (by rw [hb]; rfl)

/-! ### Operations that leave the notices -/

variable (s : State)

@[simp] theorem State.storeOpt_notices (w : Option (Nat × List Byte)) : (s.storeOpt w).notices = s.notices := by
  cases w <;> rfl

@[simp] theorem State.wakeRecipeIf_notices (b : Bool) : (s.wakeRecipeIf b).notices = s.notices := by
  cases b
  · rfl
  · exact s.wakeRecipe_notices

@[simp] theorem State.wakeLoading_notices (e : EntryId) : (s.wakeLoading e).notices = s.notices := by rw [State.wakeLoading]

@[simp] theorem State.leaveWaiters_notices (l : LaneId) : (s.leaveWaiters l).notices = s.notices := by rw [State.leaveWaiters]

@[simp] theorem State.joinWaiters_notices (e : EntryId) (l : LaneId) : (s.joinWaiters e l).notices = s.notices := rfl

@[simp] theorem State.startLoad_notices (e : EntryId) (n : Nat) (l : LaneId) : (s.startLoad e n l).notices = s.notices := rfl

@[simp] theorem State.installLoad_notices (e : EntryId) (src : Nat → Byte) : (s.installLoad e src).notices = s.notices := by
  unfold State.installLoad
  split <;> simp

@[simp] theorem State.finishLoad_notices (e : EntryId) (src : Nat → Byte) : (s.finishLoad e src).notices = s.notices :=
  s.installLoad_notices e src

@[simp] theorem State.flush_notices : s.flush.notices = s.notices := by
  rw [State.flush, State.wakeRecipeIf_notices]

@[simp] theorem State.trendDone_notices (e : EntryId) (w : TrendWrite) : (s.trendDone e w).notices = s.notices := by
  simp [State.trendDone]

@[simp] theorem State.kickSlot_notices (k : CtxId) : (s.kickSlot k).notices = s.notices := by
  obtain ⟨p, hp⟩ := kickSlot_frame s k
  rw [hp, State.modCtx_notices]

@[simp] theorem State.addJob_notices (k : CtxId) (j : SlotJob) : (s.addJob k j).notices = s.notices := by simp [State.addJob]

@[simp] theorem State.rewrite_notices (k : CtxId) (why : RewriteFor) : (s.rewrite k why).notices = s.notices := by
  simp [State.rewrite]

@[simp] theorem State.drainTrends_notices : s.drainTrends.notices = s.notices := by
  unfold State.drainTrends
  repeat' split
  all_goals rfl

@[simp] theorem State.drainWindows_notices : s.drainWindows.notices = s.notices := by
  unfold State.drainWindows
  split <;> rfl

@[simp] theorem State.drainWork_notices : s.drainWork.notices = s.notices := by
  unfold State.drainWork
  split <;> simp

@[simp] theorem State.issueAt_notices (p : PassPos) : (s.issueAt p).notices = s.notices := by cases p <;> rfl

@[simp] theorem State.passOver_notices (ps : List PassPos) : (s.passOver ps).notices = s.notices := by
  unfold State.passOver
  split <;> simp

@[simp] theorem State.startPass_notices : s.startPass.notices = s.notices := s.passOver_notices _

@[simp] theorem State.passNext_notices (p : PassPos) : (s.passNext p).notices = s.notices := by
  unfold State.passNext
  dsimp only
  repeat' split
  all_goals simp

@[simp] theorem State.scanNowPart_notices : s.scanNowPart.notices = s.notices := by
  unfold State.scanNowPart
  repeat' split
  all_goals simp

@[simp] theorem State.timerExpires_notices : s.timerExpires.notices = s.notices := by
  unfold State.timerExpires
  dsimp only
  split <;> simp

@[simp] theorem State.endMerge_notices (m : Merge) : (s.endMerge m).notices = s.notices := by
  unfold State.endMerge
  dsimp only
  split <;> rfl

@[simp] theorem State.grantLane_notices (l : LaneId) : (s.grantLane l).notices = s.notices := by
  unfold State.grantLane
  split
  · dsimp only
    split <;> rfl
  · rfl

@[simp] theorem State.acceptOpen_notices (m : Merge) (k : CtxId) (e : EntryId) (lot : LotChoice) :
    (s.acceptOpen m k e lot).notices = s.notices := by
  unfold State.acceptOpen
  cases lot <;> rw [State.rewrite_notices] <;> rfl

@[simp] theorem State.leaveWaiting_notices (m : Merge) (w : LaneState) : (s.leaveWaiting m w).notices = s.notices := by
  simp [State.leaveWaiting]

@[simp] theorem State.applyOpen_notices (m : Merge) (d : OpenDecision) : (s.applyOpen m d).notices = s.notices := by
  cases d <;> simp [State.applyOpen]

@[simp] theorem State.executeOpen_notices (m : Merge) : (s.executeOpen m).notices = s.notices := by simp [State.executeOpen]

@[simp] theorem State.dropJob_notices (k : CtxId) : (s.dropJob k).notices = s.notices := rfl

/-! ### What stores and the parts of a CONTROL write leave of the base -/

@[simp] theorem State.storeOpt_base (w : Option (Nat × List Byte)) :
    (s.storeOpt w).base = { s.base with mem := (s.storeOpt w).mem, past := (s.storeOpt w).past } := by
  cases w <;> rfl

@[simp] theorem State.store_base (a : Nat) (bs : List Byte) :
    (s.store a bs).base = { s.base with mem := (s.store a bs).mem, past := (s.store a bs).past } := rfl

@[simp] theorem State.storeCells_base (cs : List Host.Cell) :
    (s.storeCells cs).base = { s.base with mem := (s.storeCells cs).mem, past := (s.storeCells cs).past } := rfl

theorem State.messages_eq_base : s.messages = s.base.messages := rfl

theorem State.beginDrain_quiet : s.Quiet s.beginDrain := by
  have hbase := State.drainWork_base { s with
    engine := { s.engine with run := .draining, warmPending := false }
    scan := { s.scan with rescan := false }
    ctxs := mapAll s.ctxs fun _ c => { c with idleDue := false } }
  have hcontrol : s.beginDrain.control = s.control := congrArg Base.control hbase
  have hflags : s.beginDrain.flags = s.flags := congrArg Base.flags hbase
  refine ⟨congrArg Base.messages hbase, by rw [hcontrol], fun l => ?_, ?_, ?_⟩
  · rw [State.beginDrain, State.drainWork_notices]
    exact ⟨id, id, id, id⟩
  · rw [hflags]
    exact id
  · rw [hflags]
    exact id

/-- An event that changes neither a notice nor an engine flag. -/
theorem State.Quiet.of_eq {s t : State} (hmessages : t.messages = s.messages) (henables : t.control.ien = s.control.ien)
    (hnotices : t.notices = s.notices) (hdrained : t.flags.drained = s.flags.drained)
    (hengine : t.flags.engine = s.flags.engine) : s.Quiet t := by
  refine ⟨hmessages, henables, fun l => ?_, ?_, ?_⟩
  · rw [hnotices]
    exact ⟨id, id, id, id⟩
  · rw [hdrained]
    exact id
  · rw [hengine]
    exact id

theorem follows_of_eq {t : State} (hmessages : t.messages = s.messages) (henables : t.control.ien = s.control.ien)
    (hnotices : t.notices = s.notices) (hdrained : t.flags.drained = s.flags.drained)
    (hengine : t.flags.engine = s.flags.engine) : s.Follows t :=
  (State.Quiet.of_eq hmessages henables hnotices hdrained hengine).follows

theorem State.runPart_quiet (v : Bool) : s.Quiet (s.runPart v) := by
  cases v
  · show s.Quiet (State.runOff _)
    unfold State.runOff
    repeat' split
    · exact .of_eq rfl rfl rfl rfl rfl
    · exact .of_eq rfl rfl rfl rfl rfl
    · obtain ⟨hmessages, henables, hnotices, hdrained, hengine⟩ :=
        State.beginDrain_quiet { s with control := { s.control with run := false } }
      exact ⟨hmessages, henables, hnotices, hdrained, hengine⟩
    · exact .of_eq rfl rfl rfl rfl rfl
    · exact .of_eq rfl rfl rfl rfl rfl
  · show s.Quiet (State.runOn _)
    unfold State.runOn
    repeat' split
    all_goals exact .of_eq rfl rfl rfl rfl rfl

theorem State.refuse_quiet : s.Quiet s.refuse := .of_eq rfl rfl rfl rfl rfl

/-- A CLEAR that is taken leaves no flag set. -/
theorem State.clearPart_quiet (landed : List Host.Cell) : s.Quiet (s.clearPart landed) := by
  unfold State.clearPart
  split
  · refine ⟨rfl, rfl, fun l => ?_, nofun, nofun⟩
    rw [show (s.cleared _).notices[l] = ⟨false, false, false, false⟩ by simp [State.cleared, State.reset]]
    exact ⟨nofun, nofun, nofun, nofun⟩
  · exact s.refuse_quiet

theorem LaneNotice.clearedBy_within (n : LaneNotice) (bits : Word) (b : Nat) : (n.clearedBy bits b).within n :=
  ⟨Bool.and_elim_left, Bool.and_elim_left, Bool.and_elim_left, Bool.and_elim_left⟩

theorem State.noticeWrite_quiet (hi : Bool) (bits : Word) : s.Quiet (s.noticeWrite hi bits) := by
  refine ⟨rfl, rfl, fun l => ?_, id, id⟩
  show LaneNotice.within (mapAll s.notices _)[l.val] _
  rw [mapAll_get]
  split
  · exact LaneNotice.clearedBy_within _ _ _
  · exact ⟨id, id, id, id⟩

theorem State.flushPart_quiet : s.Quiet s.flushPart := by
  unfold State.flushPart
  split
  · have hbase := s.flush_base
    have hcontrol : s.flush.control = s.control := congrArg Base.control hbase
    have hflags : s.flush.flags = s.flags := congrArg Base.flags hbase
    exact .of_eq (congrArg Base.messages hbase) (by rw [hcontrol]) s.flush_notices (by rw [hflags]) (by rw [hflags])
  · exact s.refuse_quiet

theorem State.controlWrite_messages (v : Word) : (s.controlWrite v).messages = s.messages := by
  have hclear (b : Bool) (u : State) : (if b then u.clearPart [] else u).messages = u.messages := by
    cases b
    · rfl
    · exact (u.clearPart_quiet []).messages
  have hrun (b w : Bool) (u : State) : (if b then u.runPart w else u).messages = u.messages := by
    cases b
    · rfl
    · exact (u.runPart_quiet w).messages
  have hflush (b : Bool) (u : State) : (if b then u.flushPart else u).messages = u.messages := by
    cases b
    · rfl
    · exact u.flushPart_quiet.messages
  have hscan (b : Bool) (u : State) : (if b then u.scanNowPart else u).messages = u.messages := by
    cases b
    · rfl
    · exact congrArg Base.messages u.scanNowPart_base
  unfold State.controlWrite
  exact (hscan _ _).trans ((hflush _ _).trans ((hrun _ _ _).trans (hclear _ _)))

/-! ### Lane commands -/

theorem State.laneCommand_messages (code : CmdCode) (l : LaneId) : (s.laneCommand code l).messages = s.messages := by
  unfold State.laneCommand
  repeat' split
  · rfl
  · rfl
  · rfl
  · exact congrArg Base.messages (s.laneCommandTaken_base code l)

/-- A lane command other than RETIRE sets no notice. -/
theorem State.laneCommand_quiet {code : CmdCode}
    (hcode : code = cmdEnable ∨ code = cmdDisable ∨ code = cmdHold ∨ code = cmdRelease) (l : LaneId) :
    s.Quiet (s.laneCommand code l) := by
  unfold State.laneCommand State.laneCommandTaken
  split_ifs with hbusy hnone hrun henable hdisabled hdisable hfree hhold hrelease hactive
  all_goals try exact .of_eq rfl rfl rfl rfl rfl
  exact absurd hcode (by simp [henable, hdisable, hhold, hrelease])

/-! ### Every command -/

@[simp] theorem State.base_restored : ({ s.base with mem := s.mem, past := s.past } : Base) = s.base := rfl

theorem State.secondPasses_follows : s.Follows s.secondPasses := by
  rw [State.secondPasses]
  exact follows_of_eq s rfl rfl rfl rfl rfl

@[simp] theorem State.trendDone_base (e : EntryId) (w : TrendWrite) :
    (s.trendDone e w).base = { s.base with mem := (s.trendDone e w).mem, past := (s.trendDone e w).past } := by
  have h : (s.trendDone e w).base = (s.store w.addr w.bytes).base := by
    rw [State.trendDone, State.wakeRecipeIf_base, State.modEntry_base]
  have hmem : (s.trendDone e w).mem = (s.store w.addr w.bytes).mem := congrArg Base.mem h
  have hpast : (s.trendDone e w).past = (s.store w.addr w.bytes).past := congrArg Base.past h
  rw [h, hmem, hpast]
  rfl

theorem State.startDone_messages : s.startDone.messages = s.messages := by
  unfold State.startDone
  dsimp only
  split
  · exact (State.beginDrain_quiet _).messages
  · rfl

/-- A probe write reaches a context or a lane, and the merge. -/
theorem probeStore_frame {t : State} (h : s.probeStore = some t) :
    t.messages = s.messages ∧ t.control = s.control ∧ t.notices = s.notices ∧ t.flags = s.flags := by
  unfold State.probeStore at h
  dsimp only at h
  repeat' split at h
  all_goals
    cases h
    try exact ⟨rfl, rfl, rfl, rfl⟩

theorem State.narrowWritten_follows (offset : Nat) : s.Follows (s.narrowWritten offset) := by
  unfold State.narrowWritten
  repeat' split
  · exact s.refuse_quiet.follows
  · exact s.refuse_quiet.follows
  · exact follows_refl s

theorem State.registerWritten_messages (offset : Nat) (v : Word) : (s.registerWritten offset v).messages = s.messages := by
  unfold State.registerWritten State.commonBasePart State.probeAddr
  repeat' split
  · exact s.controlWrite_messages v
  · rfl
  · rfl
  · exact s.laneCommand_messages _ _
  all_goals rfl

theorem State.probeAddr_follows (word : BitVec 11) (index : BitVec 5) (region : BitVec 3) (isWrite : Bool) :
    s.Follows (s.probeAddr word index region isWrite) := by
  unfold State.probeAddr
  split
  all_goals exact follows_of_eq s rfl rfl rfl rfl rfl

theorem execCommonBase_follows (v : Word) : leadsTo (execCommonBase v s) s.Follows := by
  unfold execCommonBase
  unfold State.commonBasePart
  split
  all_goals exact follows_of_eq s rfl rfl rfl rfl rfl

theorem execRegisterWrite_follows (offset bytes : Nat) (v : Word) : leadsTo (execRegisterWrite offset bytes v s) s.Follows := by
  unfold execRegisterWrite
  split
  · exact s.narrowWritten_follows offset
  · exact follows_announce (s.registerWritten_messages offset v)


theorem execProbeReadAnswer_follows : leadsTo (execProbeReadAnswer s) s.Follows := by
  unfold execProbeReadAnswer
  repeat' split
  all_goals exact follows_of_eq s rfl rfl rfl rfl rfl

theorem execProbeWriteStore_follows : leadsTo (execProbeWriteStore s) s.Follows := by
  unfold execProbeWriteStore
  split
  · split
    · next t ht =>
      obtain ⟨hmessages, hcontrol, hnotices, hflags⟩ := probeStore_frame s ht
      exact follows_of_eq s hmessages (by rw [hcontrol]) hnotices (by rw [hflags]) (by rw [hflags])
    · exact follows_of_eq s rfl rfl rfl rfl rfl
  · exact follows_refl s


theorem execScanTimerExpiry_follows : leadsTo (execScanTimerExpiry s) s.Follows := by
  unfold execScanTimerExpiry
  split
  · exact follows_of_tables s.timerExpires_notices s.timerExpires_base
  · exact follows_refl s


theorem execSecondEvent_follows : leadsTo (execSecondEvent s) s.Follows := by
  unfold execSecondEvent
  split
  · exact s.secondPasses_follows
  · exact follows_refl s


theorem execIdleExpiry_follows (k : CtxId) : leadsTo (execIdleExpiry k s) s.Follows := by
  unfold execIdleExpiry
  repeat' split
  · exact follows_of_tables rfl rfl
  · exact follows_announce (congrArg Base.messages (State.expire_base _ k))
  · exact follows_refl s


theorem execLook_follows (l : LaneId) (bad : Bool) : leadsTo (execLook l bad s) s.Follows := by
  unfold execLook
  repeat' split
  · exact follows_announce (congrArg Base.messages (State.lookAction_base s l _ bad))
  all_goals exact follows_refl s

theorem execLookReturnWritten_follows (l : LaneId) : leadsTo (execLookReturnWritten l s) s.Follows := by
  unfold execLookReturnWritten
  repeat' split
  · exact follows_announce (by simp [State.messages_eq_base])
  all_goals exact follows_refl s

theorem execSummarySlotRead_follows (k : CtxId) (r : ReadEnd) : leadsTo (execSummarySlotRead k r s) s.Follows := by
  unfold execSummarySlotRead
  repeat' split
  · exact follows_announce rfl
  · exact follows_of_tables (by simp) (by simp)
  · exact follows_of_tables (by simp) (by simp)
  · exact follows_refl s


theorem execLotSlotRead_follows (i : LotId) (r : ReadEnd) : leadsTo (execLotSlotRead i r s) s.Follows := by
  unfold execLotSlotRead
  repeat' split
  · exact follows_announce rfl
  · exact follows_of_tables (by simp) (by simp)
  · exact follows_of_tables (by simp) (by simp)
  · exact follows_refl s


theorem execGrant_follows : leadsTo (execGrant s) s.Follows := by
  unfold execGrant
  split
  · exact follows_of_tables (by simp) (by simp)
  · exact follows_refl s


theorem execOpenRecord_follows : leadsTo (execOpenRecord s) s.Follows := by
  unfold execOpenRecord
  split
  · exact follows_refl s
  · exact follows_of_tables (by simp) (by simp)


theorem execTouchdown_follows : leadsTo (execTouchdown s) s.Follows := by
  unfold execTouchdown
  repeat' split
  · exact follows_refl s
  · exact follows_of_tables rfl rfl
  · exact follows_of_tables rfl rfl
  · exact follows_announce (congrArg Base.messages (State.continueTouchdown_base _ _ _))


theorem execAdjust_follows : leadsTo (execAdjust s) s.Follows := by
  unfold execAdjust
  repeat' split
  · exact follows_refl s
  · exact follows_of_tables rfl rfl
  · exact follows_of_tables rfl rfl
  · exact follows_announce (congrArg Base.messages (State.continueAdjust_base _ _ _))


theorem execClose_follows : leadsTo (execClose s) s.Follows := by
  unfold execClose
  repeat' split
  · exact follows_refl s
  · exact follows_of_tables rfl rfl
  · exact follows_of_tables rfl rfl
  · exact follows_announce (congrArg Base.messages (State.closeContext_base _ _ _ _))


theorem execLotEnd_follows : leadsTo (execLotEnd s) s.Follows := by
  unfold execLotEnd
  repeat' split
  · exact follows_refl s
  · exact follows_of_tables rfl rfl
  · exact follows_of_tables rfl rfl
  · exact follows_announce (congrArg Base.messages (State.enqueue_base _ _))


theorem execNop_follows : leadsTo (execNop s) s.Follows := by
  unfold execNop
  split
  · exact follows_refl s
  · exact follows_of_tables rfl rfl


theorem execBadKind_follows : leadsTo (execBadKind s) s.Follows := by
  unfold execBadKind
  split
  · exact follows_refl s
  · exact follows_of_tables rfl rfl


theorem execRecordReadError_follows : leadsTo (execRecordReadError s) s.Follows := by
  unfold execRecordReadError
  repeat' split
  all_goals exact follows_of_tables rfl rfl

theorem execRowWritebackDone_follows : leadsTo (execRowWritebackDone s) s.Follows := by
  unfold execRowWritebackDone
  repeat' split
  · exact follows_announce (by simp [State.messages_eq_base])
  all_goals exact follows_refl s

theorem execRowFetchDone_follows (r : ReadEnd) : leadsTo (execRowFetchDone r s) s.Follows := by
  unfold execRowFetchDone
  repeat' split
  · exact follows_announce rfl
  · exact follows_announce (by simp [State.messages_eq_base])
  all_goals exact follows_refl s

theorem execSiteWordWritten_follows : leadsTo (execSiteWordWritten s) s.Follows := by
  unfold execSiteWordWritten
  repeat' split
  · exact follows_of_base (by simp) (by simp)
  all_goals exact follows_refl s

theorem execDispositionWritten_follows : leadsTo (execDispositionWritten s) s.Follows := by
  unfold execDispositionWritten
  repeat' split
  · exact follows_of_base (by simp) (by simp)
  all_goals exact follows_refl s

theorem execHandoverLiveWritten_follows : leadsTo (execHandoverLiveWritten s) s.Follows := by
  unfold execHandoverLiveWritten
  repeat' split
  · exact follows_of_base (by simp) (by simp)
  · exact follows_refl s
  · exact follows_of_base (by simp) (by simp)
  all_goals exact follows_refl s

theorem execLiveGenOddWritten_follows (k : CtxId) : leadsTo (execLiveGenOddWritten k s) s.Follows := by
  unfold execLiveGenOddWritten
  repeat' split
  · exact follows_of_base (by simp) (by simp)
  all_goals exact follows_refl s

theorem execLiveContentsWritten_follows (k : CtxId) : leadsTo (execLiveContentsWritten k s) s.Follows := by
  unfold execLiveContentsWritten
  repeat' split
  · exact follows_of_base (by simp) (by simp)
  all_goals exact follows_refl s

theorem execLiveBlockWritten_follows (k : CtxId) : leadsTo (execLiveBlockWritten k s) s.Follows := by
  unfold execLiveBlockWritten
  repeat' split
  · exact follows_announce (by simp [State.messages_eq_base])
  all_goals exact follows_refl s

theorem execHalfReturnWritten_follows (l : LaneId) : leadsTo (execHalfReturnWritten l s) s.Follows := by
  unfold execHalfReturnWritten
  split
  · exact follows_announce (by simp [State.messages_eq_base])
  · exact follows_refl s


theorem execRetireCarryOut_follows : leadsTo (execRetireCarryOut s) s.Follows := by
  unfold execRetireCarryOut
  repeat' split
  · exact follows_announce (by simp [State.messages_eq_base])
  all_goals exact follows_refl s

theorem execSkippedWritten_follows : leadsTo (execSkippedWritten s) s.Follows := by
  unfold execSkippedWritten
  repeat' split
  · exact follows_of_base rfl rfl
  all_goals exact follows_refl s

theorem execRetireReturnWritten_follows : leadsTo (execRetireReturnWritten s) s.Follows := by
  unfold execRetireReturnWritten
  repeat' split
  · exact follows_announce (by simp [State.messages_eq_base])
  all_goals exact follows_refl s

theorem execRecipeLoadDone_follows (e : EntryId) (early : List Host.Cell) (r : ReadEnd) :
    leadsTo (execRecipeLoadDone e early r s) s.Follows := by
  unfold execRecipeLoadDone
  repeat' split
  · exact follows_announce rfl
  · exact follows_of_base (s.finishLoad_notices e _) (by rw [State.finishLoad_base]; rfl)
  all_goals exact follows_refl s

theorem execTrendWritebackDone_follows (e : EntryId) : leadsTo (execTrendWritebackDone e s) s.Follows := by
  unfold execTrendWritebackDone
  repeat' split
  · exact follows_of_base (s.trendDone_notices e _) (by rw [State.trendDone_base]; rfl)
  all_goals exact follows_refl s

theorem execCloseWindowWritten_follows : leadsTo (execCloseWindowWritten s) s.Follows := by
  unfold execCloseWindowWritten
  repeat' split
  · exact follows_announce (by simp [State.messages_eq_base])
  all_goals exact follows_refl s

theorem execMaterializeRowWritten_follows : leadsTo (execMaterializeRowWritten s) s.Follows := by
  unfold execMaterializeRowWritten
  repeat' split
  · exact follows_announce (by simp [State.messages_eq_base])
  all_goals exact follows_refl s

theorem execSummaryWritten_follows : leadsTo (execSummaryWritten s) s.Follows := by
  unfold execSummaryWritten
  repeat' split
  · exact follows_of_base (by simp) (by simp)
  all_goals exact follows_refl s

theorem execPostedWritten_follows : leadsTo (execPostedWritten s) s.Follows := by
  unfold execPostedWritten
  repeat' split
  · exact follows_announce (by simp [State.messages_eq_base])
  all_goals exact follows_refl s

theorem execLotSummaryWritten_follows : leadsTo (execLotSummaryWritten s) s.Follows := by
  unfold execLotSummaryWritten
  repeat' split
  · exact follows_of_base (by simp) (by simp)
  all_goals exact follows_refl s

theorem execLotPostedWritten_follows : leadsTo (execLotPostedWritten s) s.Follows := by
  unfold execLotPostedWritten
  repeat' split
  · exact follows_announce (by simp [State.messages_eq_base])
  all_goals exact follows_refl s

theorem execDrainWindowWritten_follows (k : CtxId) : leadsTo (execDrainWindowWritten k s) s.Follows := by
  unfold execDrainWindowWritten
  split
  · exact follows_of_base (by simp) (by simp)
  · exact follows_refl s


theorem execDrainEnd_follows : leadsTo (execDrainEnd s) s.Follows := by
  unfold execDrainEnd
  repeat' split
  · exact follows_of_eq s rfl rfl rfl rfl rfl
  · exact follows_announce rfl
  · exact follows_refl s


theorem execCommonHeaderRead_follows (bad : Bool) : leadsTo (execCommonHeaderRead bad s) s.Follows := by
  unfold execCommonHeaderRead
  dsimp only
  repeat' split
  · exact follows_of_eq s rfl rfl rfl rfl rfl
  · exact follows_announce rfl
  · exact follows_refl s


theorem execColdDescriptorRead_follows (bad : Bool) : leadsTo (execColdDescriptorRead bad s) s.Follows := by
  unfold execColdDescriptorRead
  dsimp only
  repeat' split
  · exact follows_announce (congrArg Base.messages (State.coldLane_base s _ bad _))
  · exact follows_announce ((State.startDone_messages _).trans (congrArg Base.messages (State.coldLane_base s _ bad _)))
  all_goals exact follows_refl s

theorem execEnableDescriptorRead_follows (bad : Bool) : leadsTo (execEnableDescriptorRead bad s) s.Follows := by
  unfold execEnableDescriptorRead
  repeat' split
  · exact follows_announce (congrArg Base.messages (State.enableLane_base s _ bad _))
  all_goals exact follows_refl s

theorem execHalfFaultedReturnWritten_follows : leadsTo (execHalfFaultedReturnWritten s) s.Follows := by
  unfold execHalfFaultedReturnWritten
  repeat' split
  · exact follows_announce (by simp [State.messages_eq_base])
  all_goals exact follows_refl s

theorem execMemoryWindowWrite_follows (addr : Word) (data : List Byte) :
    leadsTo (execMemoryWindowWrite addr data s) s.Follows := by
  unfold execMemoryWindowWrite
  split
  · exact follows_of_base rfl rfl
  · trivial

/-- What a command makes of the messages held. -/
theorem exec_follows (c : Instr) (hsent : c ≠ .interruptMessageSent) (hpower : ∀ d, c ≠ .powerOnReset d)
    (hport : ∀ d, c ≠ .portReset d) : leadsTo (exec c s) s.Follows := by
  cases c with
  | powerOnReset d => exact absurd rfl (hpower d)
  | portReset d => exact absurd rfl (hport d)
  | interruptMessageSent => exact absurd rfl hsent
  | run value => exact (s.runPart_quiet value).follows
  | scanNow => exact follows_of_tables s.scanNowPart_notices s.scanNowPart_base
  | clear landed => exact (s.clearPart_quiet landed).follows
  | flushRecipes => exact s.flushPart_quiet.follows
  | interruptEnables mask value => exact follows_announce rfl
  | interruptMode each => exact follows_of_eq (t := { s with control := { s.control with each := each } }) s rfl rfl rfl rfl rfl
  | enable lane => exact (s.laneCommand_quiet (.inl rfl) lane).follows
  | disable lane => exact (s.laneCommand_quiet (.inr (.inl rfl)) lane).follows
  | hold lane => exact (s.laneCommand_quiet (.inr (.inr (.inl rfl))) lane).follows
  | release lane => exact (s.laneCommand_quiet (.inr (.inr (.inr rfl))) lane).follows
  | retire lane => exact follows_announce (s.laneCommand_messages _ lane)
  | badCommand code lane => exact follows_announce (s.laneCommand_messages code lane)
  | noticeClear hi bits => exact (s.noticeWrite_quiet hi bits).follows
  | engineStateRead first bytes =>
    show s.Follows { s with readValue := _, flags := ⟨false, false, false⟩ }
    exact State.Quiet.follows ⟨rfl, rfl, fun _ => ⟨id, id, id, id⟩, nofun, nofun⟩
  | probeRead word index region => exact s.probeAddr_follows word index region false
  | probeWrite word index region => exact s.probeAddr_follows word index region true
  | commonBase v => exact execCommonBase_follows s v
  | registerWrite offset bytes v => exact execRegisterWrite_follows s offset bytes v
  | probeReadAnswer => exact execProbeReadAnswer_follows s
  | probeWriteStore => exact execProbeWriteStore_follows s
  | scanTimerExpiry => exact execScanTimerExpiry_follows s
  | secondEvent => exact execSecondEvent_follows s
  | idleExpiry k => exact execIdleExpiry_follows s k
  | look l bad => exact execLook_follows s l bad
  | lookReturnWritten l => exact execLookReturnWritten_follows s l
  | summarySlotRead k r => exact execSummarySlotRead_follows s k r
  | lotSlotRead i r => exact execLotSlotRead_follows s i r
  | grant => exact execGrant_follows s
  | openRecord => exact execOpenRecord_follows s
  | touchdown => exact execTouchdown_follows s
  | adjust => exact execAdjust_follows s
  | close => exact execClose_follows s
  | lotEnd => exact execLotEnd_follows s
  | nop => exact execNop_follows s
  | badKind => exact execBadKind_follows s
  | recordReadError => exact execRecordReadError_follows s
  | rowWritebackDone => exact execRowWritebackDone_follows s
  | rowFetchDone r => exact execRowFetchDone_follows s r
  | siteWordWritten => exact execSiteWordWritten_follows s
  | dispositionWritten => exact execDispositionWritten_follows s
  | handoverLiveWritten => exact execHandoverLiveWritten_follows s
  | liveGenOddWritten k => exact execLiveGenOddWritten_follows s k
  | liveContentsWritten k => exact execLiveContentsWritten_follows s k
  | liveBlockWritten k => exact execLiveBlockWritten_follows s k
  | halfReturnWritten l => exact execHalfReturnWritten_follows s l
  | retireCarryOut => exact execRetireCarryOut_follows s
  | skippedWritten => exact execSkippedWritten_follows s
  | retireReturnWritten => exact execRetireReturnWritten_follows s
  | recipeLoadDone e early r => exact execRecipeLoadDone_follows s e early r
  | trendWritebackDone e => exact execTrendWritebackDone_follows s e
  | closeWindowWritten => exact execCloseWindowWritten_follows s
  | materializeRowWritten => exact execMaterializeRowWritten_follows s
  | summaryWritten => exact execSummaryWritten_follows s
  | postedWritten => exact execPostedWritten_follows s
  | lotSummaryWritten => exact execLotSummaryWritten_follows s
  | lotPostedWritten => exact execLotPostedWritten_follows s
  | drainWindowWritten k => exact execDrainWindowWritten_follows s k
  | drainEnd => exact execDrainEnd_follows s
  | commonHeaderRead bad => exact execCommonHeaderRead_follows s bad
  | coldDescriptorRead bad => exact execColdDescriptorRead_follows s bad
  | enableDescriptorRead bad => exact execEnableDescriptorRead_follows s bad
  | halfFaultedReturnWritten => exact execHalfFaultedReturnWritten_follows s
  | memoryWindowWrite addr data => exact execMemoryWindowWrite_follows s addr data

/-- Settles O58: every command follows its notices, and `messagesRaised` tells the modes apart. -/
theorem messagesFollowNotices : Obligations.MessagesFollowNotices := by
  intro c s t h hsent hpower hport hs
  have hmessages : t.messages = min 8 (s.messages + messagesRaised s t) := of_leadsTo (exec_follows s c hsent hpower hport) h hs
  refine ⟨fun heach => ?_, fun heach => ?_⟩
  · rw [hmessages, messagesRaised, heach]
    cases s.pend <;> cases t.pend <;> simp <;> omega
  · rw [hmessages, messagesRaised, heach]

end Sys2Proof.Machine
end

section
/-!
PROOFS. FAULTED (R151): no block works, so a command can reach only the registers and the indicators. They settle O59.
-/

namespace Sys2Proof.Machine

/-- From `s` to `t` nothing changes but the registers, the notices, the indicators and the messages held. -/
def State.RegistersOnly (s t : State) : Prop :=
  t = { s with
    control := t.control, command := t.command, notices := t.notices, flags := t.flags, messages := t.messages
    probe := t.probe, readValue := t.readValue }

/-- The outcome is a next state that meets `P`. -/
def endsIn (o : Host.Outcome State Fault Refusal) (P : State → Prop) : Prop := ∃ t, o = .next t ∧ P t

theorem endsIn_next {P : State → Prop} {t : State} (h : P t) : endsIn (.next t) P := ⟨t, rfl, h⟩

section

variable {s : State}

theorem registersOnly_refl (s : State) : s.RegistersOnly s := rfl

theorem State.RegistersOnly.trans {t u : State} (h : s.RegistersOnly t) (h' : t.RegistersOnly u) : s.RegistersOnly u := by
  unfold State.RegistersOnly at *
  rw [h', h]

theorem State.RegistersOnly.announce {t : State} (h : s.RegistersOnly t) (u : State) : s.RegistersOnly (announce u t) :=
  h.trans rfl

/-! ### What works only outside FAULTED -/

theorem working_faulted (hf : s.engine.run = .faulted) : s.working = false := by simp [State.working, hf]

theorem unfaulted_faulted (hf : s.engine.run = .faulted) : s.unfaulted = false := by simp [State.unfaulted, hf]

theorem recordRead_faulted (hf : s.engine.run = .faulted) (p : Nat → Bool) : s.recordRead p = none := by
  unfold State.recordRead
  split
  · simp [working_faulted hf]
  · rfl

theorem granted_faulted (hf : s.engine.run = .faulted) : s.granted = none := by
  have hnone : (List.finRange 16).filter s.isCandidate = [] := by
    rw [List.filter_eq_nil_iff]
    intro l _
    simp [State.isCandidate, hf]
  unfold State.granted
  rw [hnone]
  rfl

theorem commonBasePart_faulted (hf : s.engine.run = .faulted) (v : Word) : s.commonBasePart v = s.refuse := by
  simp [State.commonBasePart, State.commonBaseTaken, hf]

theorem runPart_faulted (hf : s.engine.run = .faulted) (v : Bool) :
    s.runPart v = { s with control := { s.control with run := v } } := by
  cases v
  · simp [State.runPart, State.runOff, hf]
  · simp [State.runPart, State.runOn, hf]

theorem flushPart_faulted (hf : s.engine.run = .faulted) : s.flushPart = s.refuse := by simp [State.flushPart, hf]

theorem scanNowPart_faulted (hf : s.engine.run = .faulted) : s.scanNowPart = s := by simp [State.scanNowPart, hf]

theorem laneCommand_registersOnly (hf : s.engine.run = .faulted) (code : CmdCode) (l : LaneId) :
    s.RegistersOnly (s.laneCommand code l) := by
  unfold State.laneCommand
  rw [if_pos (show s.engine.run ≠ .running by rw [hf]; decide)]
  repeat' split
  all_goals rfl

theorem probeAddr_registersOnly (word : BitVec 11) (index : BitVec 5) (region : BitVec 3) (isWrite : Bool) :
    s.RegistersOnly (s.probeAddr word index region isWrite) := by
  unfold State.probeAddr
  split
  all_goals rfl

/-! ### The parts of a CONTROL write without its CLEAR -/

theorem runPart_registersOnly (hf : s.engine.run = .faulted) (b v : Bool) :
    s.RegistersOnly (if b then s.runPart v else s) := by
  cases b
  · exact registersOnly_refl s
  · rw [if_pos rfl, runPart_faulted hf]
    rfl

theorem flushPart_registersOnly (hf : s.engine.run = .faulted) (b : Bool) :
    s.RegistersOnly (if b then s.flushPart else s) := by
  cases b
  · exact registersOnly_refl s
  · rw [if_pos rfl, flushPart_faulted hf]
    rfl

theorem scanNowPart_registersOnly (hf : s.engine.run = .faulted) (b : Bool) :
    s.RegistersOnly (if b then s.scanNowPart else s) := by
  cases b
  · exact registersOnly_refl s
  · rw [if_pos rfl, scanNowPart_faulted hf]
    rfl

theorem State.RegistersOnly.faulted {t : State} (h : s.RegistersOnly t) (hf : s.engine.run = .faulted) :
    t.engine.run = .faulted := by
  rw [h]
  exact hf

theorem controlWrite_registersOnly (hf : s.engine.run = .faulted) {v : Word} (hclear : v.getLsbD 18 = false) :
    s.RegistersOnly (s.controlWrite v) := by
  have hrun := runPart_registersOnly hf (v.getLsbD (16 + 0)) (v.getLsbD 0)
  have hflush := hrun.trans (flushPart_registersOnly (hrun.faulted hf) (v.getLsbD (16 + 3) && v.getLsbD 3))
  have hscan := hflush.trans (scanNowPart_registersOnly (hflush.faulted hf) (v.getLsbD (16 + 1) && v.getLsbD 1))
  unfold State.controlWrite
  simp only [show v.getLsbD (16 + 2) = false from hclear, Bool.false_and, Bool.false_eq_true, if_false]
  exact hscan.trans rfl

theorem registerWritten_registersOnly (hf : s.engine.run = .faulted) {offset : Nat} {v : Word}
    (hclear : offset = 0 → v.getLsbD 18 = false) : s.RegistersOnly (s.registerWritten offset v) := by
  unfold State.registerWritten
  repeat' split
  · next h => exact controlWrite_registersOnly hf (hclear h)
  · rw [commonBasePart_faulted hf]
    rfl
  · exact laneCommand_registersOnly hf _ _
  · rfl
  · rfl
  · exact probeAddr_registersOnly _ _ _ _
  all_goals rfl

theorem execRegisterWrite_faulted (hf : s.engine.run = .faulted) {offset bytes : Nat} {v : Word}
    (hclear : offset = 0 → v.getLsbD 18 = false) : endsIn (execRegisterWrite offset bytes v s) s.RegistersOnly := by
  unfold execRegisterWrite State.narrowWritten
  repeat' split
  · exact endsIn_next rfl
  · exact endsIn_next rfl
  · exact endsIn_next rfl
  · exact endsIn_next ((registerWritten_registersOnly hf hclear).announce s)

theorem execProbeReadAnswer_faulted : endsIn (execProbeReadAnswer s) s.RegistersOnly := by
  unfold execProbeReadAnswer
  repeat' split
  all_goals exact endsIn_next rfl

/-! ### Every command -/

theorem execLook_faulted (hf : s.engine.run = .faulted) (l : LaneId) (bad : Bool) : execLook l bad s = .next s := by
  simp only [execLook, working_faulted hf, Bool.false_eq_true, false_and, if_false]
  repeat' split
  all_goals rfl

theorem execLookReturnWritten_faulted (hf : s.engine.run = .faulted) (l : LaneId) : execLookReturnWritten l s = .next s := by
  simp only [execLookReturnWritten, working_faulted hf, Bool.false_eq_true, false_and, if_false]
  repeat' split
  all_goals rfl

theorem execSummarySlotRead_faulted (hf : s.engine.run = .faulted) (k : CtxId) (r : ReadEnd) :
    execSummarySlotRead k r s = .next s := by
  simp [execSummarySlotRead, working_faulted hf]

theorem execLotSlotRead_faulted (hf : s.engine.run = .faulted) (i : LotId) (r : ReadEnd) : execLotSlotRead i r s = .next s := by
  simp [execLotSlotRead, working_faulted hf]

theorem execRecordReadError_faulted (hf : s.engine.run = .faulted) : execRecordReadError s = .next s := by
  simp only [execRecordReadError, working_faulted hf, Bool.false_eq_true, false_and, if_false]
  repeat' split
  all_goals rfl

theorem execRowWritebackDone_faulted (hf : s.engine.run = .faulted) : execRowWritebackDone s = .next s := by
  simp only [execRowWritebackDone, working_faulted hf, Bool.false_eq_true, if_false]
  repeat' split
  all_goals rfl

theorem execRowFetchDone_faulted (hf : s.engine.run = .faulted) (r : ReadEnd) : execRowFetchDone r s = .next s := by
  simp only [execRowFetchDone, working_faulted hf, Bool.false_eq_true, if_false]
  repeat' split
  all_goals rfl

theorem execSiteWordWritten_faulted (hf : s.engine.run = .faulted) : execSiteWordWritten s = .next s := by
  simp only [execSiteWordWritten, working_faulted hf, Bool.false_eq_true, if_false]
  repeat' split
  all_goals rfl

theorem execDispositionWritten_faulted (hf : s.engine.run = .faulted) : execDispositionWritten s = .next s := by
  simp only [execDispositionWritten, working_faulted hf, Bool.false_eq_true, if_false]
  repeat' split
  all_goals rfl

theorem execHandoverLiveWritten_faulted (hf : s.engine.run = .faulted) : execHandoverLiveWritten s = .next s := by
  simp only [execHandoverLiveWritten, working_faulted hf, Bool.false_eq_true, if_false]
  repeat' split
  all_goals rfl

theorem execLiveGenOddWritten_faulted (hf : s.engine.run = .faulted) (k : CtxId) : execLiveGenOddWritten k s = .next s := by
  simp only [execLiveGenOddWritten, working_faulted hf, Bool.false_eq_true, if_false]
  repeat' split
  all_goals rfl

theorem execLiveContentsWritten_faulted (hf : s.engine.run = .faulted) (k : CtxId) : execLiveContentsWritten k s = .next s := by
  simp only [execLiveContentsWritten, working_faulted hf, Bool.false_eq_true, if_false]
  repeat' split
  all_goals rfl

theorem execLiveBlockWritten_faulted (hf : s.engine.run = .faulted) (k : CtxId) : execLiveBlockWritten k s = .next s := by
  simp only [execLiveBlockWritten, working_faulted hf, Bool.false_eq_true, if_false]
  repeat' split
  all_goals rfl

theorem execHalfReturnWritten_faulted (hf : s.engine.run = .faulted) (l : LaneId) : execHalfReturnWritten l s = .next s := by
  simp [execHalfReturnWritten, working_faulted hf]

theorem execRetireCarryOut_faulted (hf : s.engine.run = .faulted) : execRetireCarryOut s = .next s := by
  simp only [execRetireCarryOut, working_faulted hf, Bool.false_eq_true, false_and, if_false]
  repeat' split
  all_goals rfl

theorem execSkippedWritten_faulted (hf : s.engine.run = .faulted) : execSkippedWritten s = .next s := by
  simp only [execSkippedWritten, working_faulted hf, Bool.false_eq_true, if_false]
  repeat' split
  all_goals rfl

theorem execRetireReturnWritten_faulted (hf : s.engine.run = .faulted) : execRetireReturnWritten s = .next s := by
  simp only [execRetireReturnWritten, working_faulted hf, Bool.false_eq_true, if_false]
  repeat' split
  all_goals rfl

theorem execRecipeLoadDone_faulted (hf : s.engine.run = .faulted) (e : EntryId) (early : List Host.Cell) (r : ReadEnd) :
    execRecipeLoadDone e early r s = .next s := by
  simp only [execRecipeLoadDone, working_faulted hf, Bool.false_eq_true, if_false]
  repeat' split
  all_goals rfl

theorem execCloseWindowWritten_faulted (hf : s.engine.run = .faulted) : execCloseWindowWritten s = .next s := by
  simp only [execCloseWindowWritten, working_faulted hf, Bool.false_eq_true, false_and, if_false]
  repeat' split
  all_goals rfl

theorem execMaterializeRowWritten_faulted (hf : s.engine.run = .faulted) : execMaterializeRowWritten s = .next s := by
  simp only [execMaterializeRowWritten, working_faulted hf, Bool.false_eq_true, if_false]
  repeat' split
  all_goals rfl

theorem execSummaryWritten_faulted (hf : s.engine.run = .faulted) : execSummaryWritten s = .next s := by
  simp only [execSummaryWritten, working_faulted hf, Bool.false_eq_true, false_and, if_false]
  repeat' split
  all_goals rfl

theorem execPostedWritten_faulted (hf : s.engine.run = .faulted) : execPostedWritten s = .next s := by
  simp only [execPostedWritten, working_faulted hf, Bool.false_eq_true, false_and, if_false]
  repeat' split
  all_goals rfl

theorem execLotSummaryWritten_faulted (hf : s.engine.run = .faulted) : execLotSummaryWritten s = .next s := by
  simp only [execLotSummaryWritten, working_faulted hf, Bool.false_eq_true, if_false]
  repeat' split
  all_goals rfl

theorem execLotPostedWritten_faulted (hf : s.engine.run = .faulted) : execLotPostedWritten s = .next s := by
  simp only [execLotPostedWritten, working_faulted hf, Bool.false_eq_true, if_false]
  repeat' split
  all_goals rfl

theorem execDrainWindowWritten_faulted (hf : s.engine.run = .faulted) (k : CtxId) : execDrainWindowWritten k s = .next s := by
  simp [execDrainWindowWritten, working_faulted hf]

theorem execEnableDescriptorRead_faulted (hf : s.engine.run = .faulted) (bad : Bool) :
    execEnableDescriptorRead bad s = .next s := by
  simp only [execEnableDescriptorRead, working_faulted hf, Bool.false_eq_true, if_false]
  repeat' split
  all_goals rfl

theorem execHalfFaultedReturnWritten_faulted (hf : s.engine.run = .faulted) : execHalfFaultedReturnWritten s = .next s := by
  simp only [execHalfFaultedReturnWritten, working_faulted hf, Bool.false_eq_true, false_and, if_false]
  repeat' split
  all_goals rfl

theorem execScanTimerExpiry_faulted (hf : s.engine.run = .faulted) : execScanTimerExpiry s = .next s := by
  simp [execScanTimerExpiry, hf]

theorem execSecondEvent_faulted (hf : s.engine.run = .faulted) : execSecondEvent s = .next s := by
  simp [execSecondEvent, hf]

theorem execIdleExpiry_faulted (hf : s.engine.run = .faulted) (k : CtxId) : execIdleExpiry k s = .next s := by
  simp [execIdleExpiry, hf]

theorem execGrant_faulted (hf : s.engine.run = .faulted) : execGrant s = .next s := by
  unfold execGrant
  rw [granted_faulted hf]
  cases s.merge <;> rfl

theorem execTrendWritebackDone_faulted (hf : s.engine.run = .faulted) (e : EntryId) : execTrendWritebackDone e s = .next s := by
  simp only [execTrendWritebackDone, unfaulted_faulted hf, Bool.false_eq_true, if_false]
  repeat' split
  all_goals rfl

theorem execDrainEnd_faulted (hf : s.engine.run = .faulted) : execDrainEnd s = .next s := by
  simp [execDrainEnd, hf]

theorem execCommonHeaderRead_faulted (hf : s.engine.run = .faulted) (bad : Bool) : execCommonHeaderRead bad s = .next s := by
  simp [execCommonHeaderRead, hf]

theorem execColdDescriptorRead_faulted (hf : s.engine.run = .faulted) (bad : Bool) :
    execColdDescriptorRead bad s = .next s := by
  simp only [execColdDescriptorRead, hf, reduceCtorEq, if_false]
  split <;> rfl

theorem execOpenRecord_faulted (hf : s.engine.run = .faulted) : execOpenRecord s = .next s := by
  simp [execOpenRecord, recordRead_faulted hf]

theorem execTouchdown_faulted (hf : s.engine.run = .faulted) : execTouchdown s = .next s := by
  simp [execTouchdown, recordRead_faulted hf]

theorem execAdjust_faulted (hf : s.engine.run = .faulted) : execAdjust s = .next s := by
  simp [execAdjust, recordRead_faulted hf]

theorem execClose_faulted (hf : s.engine.run = .faulted) : execClose s = .next s := by
  simp [execClose, recordRead_faulted hf]

theorem execLotEnd_faulted (hf : s.engine.run = .faulted) : execLotEnd s = .next s := by
  simp [execLotEnd, recordRead_faulted hf]

theorem execNop_faulted (hf : s.engine.run = .faulted) : execNop s = .next s := by
  simp [execNop, recordRead_faulted hf]

theorem execBadKind_faulted (hf : s.engine.run = .faulted) : execBadKind s = .next s := by
  simp [execBadKind, recordRead_faulted hf]

/-- In FAULTED a command reaches the registers alone, the resets, a CLEAR, host writes of memory and probe writes aside. -/
theorem exec_faulted (hf : s.engine.run = .faulted) (c : Instr) (hpower : ∀ d, c ≠ .powerOnReset d)
    (hport : ∀ d, c ≠ .portReset d) (hclear : ∀ d, c ≠ .clear d) (hmemory : ∀ a d, c ≠ .memoryWindowWrite a d)
    (hprobe : c ≠ .probeWriteStore) (hcontrol : ∀ n v, c = .registerWrite 0 n v → v.getLsbD 18 = false) :
    endsIn (exec c s) s.RegistersOnly := by
  cases c with
  | powerOnReset d => exact absurd rfl (hpower d)
  | portReset d => exact absurd rfl (hport d)
  | clear d => exact absurd rfl (hclear d)
  | memoryWindowWrite a d => exact absurd rfl (hmemory a d)
  | probeWriteStore => exact absurd rfl hprobe
  | run value =>
    refine ⟨_, rfl, ?_⟩
    rw [runPart_faulted hf]
    rfl
  | scanNow => exact ⟨s, congrArg Host.Outcome.next (scanNowPart_faulted hf), registersOnly_refl s⟩
  | flushRecipes =>
    refine ⟨_, rfl, ?_⟩
    rw [flushPart_faulted hf]
    rfl
  | interruptEnables mask value => exact ⟨_, rfl, rfl⟩
  | interruptMode each => exact ⟨_, rfl, rfl⟩
  | commonBase value =>
    refine ⟨_, rfl, ?_⟩
    rw [commonBasePart_faulted hf]
    rfl
  | enable lane => exact ⟨_, rfl, laneCommand_registersOnly hf _ lane⟩
  | disable lane => exact ⟨_, rfl, laneCommand_registersOnly hf _ lane⟩
  | hold lane => exact ⟨_, rfl, laneCommand_registersOnly hf _ lane⟩
  | release lane => exact ⟨_, rfl, laneCommand_registersOnly hf _ lane⟩
  | retire lane => exact ⟨_, rfl, (laneCommand_registersOnly hf _ lane).announce s⟩
  | badCommand code lane => exact ⟨_, rfl, (laneCommand_registersOnly hf code lane).announce s⟩
  | noticeClear hi bits => exact ⟨_, rfl, rfl⟩
  | engineStateRead first bytes => exact ⟨_, rfl, rfl⟩
  | probeRead word index region => exact ⟨_, rfl, probeAddr_registersOnly word index region false⟩
  | probeWrite word index region => exact ⟨_, rfl, probeAddr_registersOnly word index region true⟩
  | registerWrite offset bytes value =>
    exact execRegisterWrite_faulted hf fun h => hcontrol bytes value (by rw [h])
  | probeReadAnswer => exact execProbeReadAnswer_faulted
  | interruptMessageSent => exact ⟨_, rfl, rfl⟩
  | look l bad => exact ⟨s, execLook_faulted hf l bad, registersOnly_refl s⟩
  | lookReturnWritten l => exact ⟨s, execLookReturnWritten_faulted hf l, registersOnly_refl s⟩
  | summarySlotRead k r => exact ⟨s, execSummarySlotRead_faulted hf k r, registersOnly_refl s⟩
  | lotSlotRead i r => exact ⟨s, execLotSlotRead_faulted hf i r, registersOnly_refl s⟩
  | recordReadError => exact ⟨s, execRecordReadError_faulted hf, registersOnly_refl s⟩
  | rowWritebackDone => exact ⟨s, execRowWritebackDone_faulted hf, registersOnly_refl s⟩
  | rowFetchDone r => exact ⟨s, execRowFetchDone_faulted hf r, registersOnly_refl s⟩
  | siteWordWritten => exact ⟨s, execSiteWordWritten_faulted hf, registersOnly_refl s⟩
  | dispositionWritten => exact ⟨s, execDispositionWritten_faulted hf, registersOnly_refl s⟩
  | handoverLiveWritten => exact ⟨s, execHandoverLiveWritten_faulted hf, registersOnly_refl s⟩
  | liveGenOddWritten k => exact ⟨s, execLiveGenOddWritten_faulted hf k, registersOnly_refl s⟩
  | liveContentsWritten k => exact ⟨s, execLiveContentsWritten_faulted hf k, registersOnly_refl s⟩
  | liveBlockWritten k => exact ⟨s, execLiveBlockWritten_faulted hf k, registersOnly_refl s⟩
  | halfReturnWritten l => exact ⟨s, execHalfReturnWritten_faulted hf l, registersOnly_refl s⟩
  | retireCarryOut => exact ⟨s, execRetireCarryOut_faulted hf, registersOnly_refl s⟩
  | skippedWritten => exact ⟨s, execSkippedWritten_faulted hf, registersOnly_refl s⟩
  | retireReturnWritten => exact ⟨s, execRetireReturnWritten_faulted hf, registersOnly_refl s⟩
  | recipeLoadDone e early r => exact ⟨s, execRecipeLoadDone_faulted hf e early r, registersOnly_refl s⟩
  | closeWindowWritten => exact ⟨s, execCloseWindowWritten_faulted hf, registersOnly_refl s⟩
  | materializeRowWritten => exact ⟨s, execMaterializeRowWritten_faulted hf, registersOnly_refl s⟩
  | summaryWritten => exact ⟨s, execSummaryWritten_faulted hf, registersOnly_refl s⟩
  | postedWritten => exact ⟨s, execPostedWritten_faulted hf, registersOnly_refl s⟩
  | lotSummaryWritten => exact ⟨s, execLotSummaryWritten_faulted hf, registersOnly_refl s⟩
  | lotPostedWritten => exact ⟨s, execLotPostedWritten_faulted hf, registersOnly_refl s⟩
  | drainWindowWritten k => exact ⟨s, execDrainWindowWritten_faulted hf k, registersOnly_refl s⟩
  | enableDescriptorRead bad => exact ⟨s, execEnableDescriptorRead_faulted hf bad, registersOnly_refl s⟩
  | halfFaultedReturnWritten => exact ⟨s, execHalfFaultedReturnWritten_faulted hf, registersOnly_refl s⟩
  | scanTimerExpiry => exact ⟨s, execScanTimerExpiry_faulted hf, registersOnly_refl s⟩
  | secondEvent => exact ⟨s, execSecondEvent_faulted hf, registersOnly_refl s⟩
  | idleExpiry k => exact ⟨s, execIdleExpiry_faulted hf k, registersOnly_refl s⟩
  | grant => exact ⟨s, execGrant_faulted hf, registersOnly_refl s⟩
  | trendWritebackDone e => exact ⟨s, execTrendWritebackDone_faulted hf e, registersOnly_refl s⟩
  | drainEnd => exact ⟨s, execDrainEnd_faulted hf, registersOnly_refl s⟩
  | commonHeaderRead bad => exact ⟨s, execCommonHeaderRead_faulted hf bad, registersOnly_refl s⟩
  | coldDescriptorRead bad => exact ⟨s, execColdDescriptorRead_faulted hf bad, registersOnly_refl s⟩
  | openRecord => exact ⟨s, execOpenRecord_faulted hf, registersOnly_refl s⟩
  | touchdown => exact ⟨s, execTouchdown_faulted hf, registersOnly_refl s⟩
  | adjust => exact ⟨s, execAdjust_faulted hf, registersOnly_refl s⟩
  | close => exact ⟨s, execClose_faulted hf, registersOnly_refl s⟩
  | lotEnd => exact ⟨s, execLotEnd_faulted hf, registersOnly_refl s⟩
  | nop => exact ⟨s, execNop_faulted hf, registersOnly_refl s⟩
  | badKind => exact ⟨s, execBadKind_faulted hf, registersOnly_refl s⟩

end

/-- Settles O59. -/
theorem faultedHoldsEverything : Obligations.FaultedHoldsEverything :=
  fun c _ hf hpower hport hclear hmemory hprobe hcontrol => exec_faulted hf c hpower hport hclear hmemory hprobe hcontrol

end Sys2Proof.Machine
end

section
/-!
PROOFS. The work of a drain (R149): every event that may make a writeback due ends by starting it (`State.drainWork`), and every
other one leaves what is due as it was, or leaves the engine out of DRAINING. They settle O60.
-/

namespace Sys2Proof.Machine

/-! ### What is due -/

/-- The window of an OPEN context is clean, or its writeback has started. -/
def Ctx.windowStarted (c : Ctx) : Prop := c.state = .opened → c.dirty = true → c.winRow ≠ none → c.drainWrite = true

/-- A dirty entry has a trend writeback in flight, and its own deferred behind it. -/
def CacheEntry.trendStarted (c : CacheEntry) : Prop := c.dirty = true → c.writing ≠ none ∧ c.deferred = true

/-- Nothing holds back the trend writebacks of a drain. -/
def State.trendDue (s : State) : Prop :=
  (∀ l, s.command.progress ≠ .retirePending l) ∧ s.closeQ = [] ∧ s.closeUnit = .idle

theorem drainWorkStarted_iff (s : State) : s.drainWorkStarted ↔ (s.engine.run = .draining → s.merge = none →
    (∀ k : CtxId, (s.ctxs[k]).windowStarted) ∧ (s.trendDue → ∀ e : EntryId, (s.cache[e]).trendStarted)) := by
  constructor
  · intro h hrun hmerge
    obtain ⟨hwindows, htrends⟩ := h hrun hmerge
    exact ⟨hwindows, fun ⟨hprogress, hqueue, hunit⟩ => htrends hprogress hqueue hunit⟩
  · intro h hrun hmerge
    obtain ⟨hwindows, htrends⟩ := h hrun hmerge
    exact ⟨hwindows, fun hprogress hqueue hunit => htrends ⟨hprogress, hqueue, hunit⟩⟩

/-- An event from `s` to `t` leaves the work of a drain started. -/
def State.DrainsOn (s t : State) : Prop := s.drainWorkStarted → t.drainWorkStarted

/-- From `s` to `t` no window writeback falls due. -/
structure State.KeepsWindows (s t : State) : Prop where
  run   : t.engine.run = s.engine.run
  merge : t.merge = none → s.merge = none
  ctx   : ∀ k : CtxId, (s.ctxs[k]).windowStarted → (t.ctxs[k]).windowStarted

/-- From `s` to `t` no writeback of a drain falls due. -/
structure State.KeepsDrain (s t : State) : Prop extends s.KeepsWindows t where
  due   : t.trendDue → s.trendDue
  entry : ∀ e : EntryId, (s.cache[e]).trendStarted → (t.cache[e]).trendStarted

section

variable {s t : State}

theorem State.KeepsDrain.drainsOn (h : s.KeepsDrain t) : s.DrainsOn t := by
  intro hs
  rw [drainWorkStarted_iff] at hs ⊢
  intro hrun hmerge
  obtain ⟨hwindows, htrends⟩ := hs (h.run.symm.trans hrun) (h.merge hmerge)
  exact ⟨fun k => h.ctx k (hwindows k), fun hdue e => h.entry e (htrends (h.due hdue) e)⟩

/-- With the Close Unit at work no trend writeback is due. -/
theorem State.KeepsWindows.drainsOn (h : s.KeepsWindows t) (hclosing : ¬ t.trendDue) : s.DrainsOn t := by
  intro hs
  rw [drainWorkStarted_iff] at hs ⊢
  intro hrun hmerge
  obtain ⟨hwindows, -⟩ := hs (h.run.symm.trans hrun) (h.merge hmerge)
  exact ⟨fun k => h.ctx k (hwindows k), fun hdue => absurd hdue hclosing⟩

theorem drainsOn_of_run (h : t.engine.run ≠ .draining) : s.DrainsOn t := fun _ hrun => absurd hrun h

theorem drainsOn_of_merge (h : t.merge ≠ none) : s.DrainsOn t := fun _ _ hmerge => absurd hmerge h

theorem State.KeepsDrain.refl (s : State) : s.KeepsDrain s := ⟨⟨rfl, id, fun _ => id⟩, id, fun _ => id⟩

theorem State.KeepsWindows.trans {u : State} (h : s.KeepsWindows t) (h' : t.KeepsWindows u) : s.KeepsWindows u :=
  ⟨h'.run.trans h.run, h.merge ∘ h'.merge, fun k => h'.ctx k ∘ h.ctx k⟩

theorem State.KeepsDrain.trans {u : State} (h : s.KeepsDrain t) (h' : t.KeepsDrain u) : s.KeepsDrain u :=
  ⟨h.toKeepsWindows.trans h'.toKeepsWindows, h.due ∘ h'.due, fun e => h'.entry e ∘ h.entry e⟩

/-- What the rest of the state holds plays no part. -/
theorem State.KeepsDrain.outside (h : s.KeepsDrain t) (control : Control) (common : Word) (notices : Vector LaneNotice 16)
    (flags : Indicators) (messages : Nat) (probe : Probe) (readValue : Word) (lanes : Vector Lane 16) (lastUse : List EntryId)
    (lots : Vector Lot 8) (scan : Scanner) (second : Nat) (mem : Mem) (past : List Host.Cell) (pending : List Instr) :
    s.KeepsDrain { t with
      control := control, common := common, notices := notices, flags := flags, messages := messages, probe := probe
      readValue := readValue, lanes := lanes, lastUse := lastUse, lots := lots, scan := scan, second := second, mem := mem
      past := past, pending := pending } :=
  ⟨⟨h.run, h.merge, h.ctx⟩, h.due, h.entry⟩

theorem State.DrainsOn.trans {u : State} (h : s.DrainsOn t) (h' : t.DrainsOn u) : s.DrainsOn u := h' ∘ h

theorem drainsOn_refl (s : State) : s.DrainsOn s := id

theorem State.DrainsOn.announce (h : s.DrainsOn t) (u : State) : s.DrainsOn (announce u t) := h

/-! ### The work of a drain starts -/

theorem takeTrend_started (addr : Nat) (c : CacheEntry) : (if c.dirty then c.takeTrend addr else c).trendStarted := by
  unfold CacheEntry.takeTrend
  split
  · split
    · next hwriting => exact fun _ => ⟨Option.isSome_iff_ne_none.1 hwriting, rfl⟩
    · exact nofun
  · next hdirty => exact fun h => absurd h hdirty

theorem drainTrends_started (s : State) (hmerge : s.merge = none) (hdue : s.drainTrends.trendDue) (e : EntryId) :
    (s.drainTrends.cache[e]).trendStarted := by
  revert hdue
  unfold State.drainTrends
  split
  · next l hl => exact fun hdue => absurd hl (hdue.1 l)
  · split
    · intro _
      show CacheEntry.trendStarted (mapAll s.cache _)[e.val]
      rw [mapAll_get]
      exact takeTrend_started _ _
    · next hbusy => exact fun ⟨_, hqueue, hunit⟩ => absurd ⟨by simp [hmerge], hqueue, hunit⟩ hbusy

theorem drainTrends_ctx (s : State) (k : CtxId) : s.drainTrends.ctxs[k] = s.ctxs[k] := by
  unfold State.drainTrends
  repeat' split
  all_goals rfl

theorem drainTrends_merge (s : State) : s.drainTrends.merge = s.merge := by
  unfold State.drainTrends
  repeat' split
  all_goals rfl

theorem drainWindows_merge (s : State) : s.drainWindows.merge = s.merge := by
  unfold State.drainWindows
  split <;> rfl

theorem drainWindows_started (s : State) (hmerge : s.merge = none) (k : CtxId) :
    (s.drainWindows.ctxs[k]).windowStarted := by
  unfold State.drainWindows
  rw [if_pos (by simp [hmerge])]
  show Ctx.windowStarted (mapAll s.ctxs _)[k.val]
  rw [mapAll_get]
  split
  · exact fun _ _ _ => rfl
  · next hclean => exact fun hstate hdirty hrow => absurd ⟨hstate, hdirty, Option.isSome_iff_ne_none.2 hrow⟩ hclean

/-- After the drain's work that is due has started, it has. -/
theorem drainWork_started (s : State) : s.drainWork.drainWorkStarted := by
  rw [drainWorkStarted_iff]
  unfold State.drainWork
  split
  · intro _ hmerge
    rw [drainTrends_merge] at hmerge
    refine ⟨fun k => ?_, fun hdue e => drainTrends_started _ hmerge hdue e⟩
    rw [drainTrends_ctx]
    exact drainWindows_started s ((drainWindows_merge s).symm.trans hmerge) k
  · next hrun => exact fun h => absurd h hrun

theorem drainsOn_drainWork (s t : State) : s.DrainsOn t.drainWork := fun _ => drainWork_started t

/-! ### Updates that keep what is due -/

theorem modCtx_keepsDrain (s : State) (k : CtxId) {f : Ctx → Ctx} (hf : ∀ c, c.windowStarted → (f c).windowStarted) :
    s.KeepsDrain (s.modCtx k f) :=
  ⟨⟨rfl, id, modAt_rel (R := fun c d => c.windowStarted → d.windowStarted) (fun _ => id) s.ctxs k f (hf _)⟩, id, fun _ => id⟩

theorem modLane_keepsDrain (s : State) (l : LaneId) (f : Lane → Lane) : s.KeepsDrain (s.modLane l f) :=
  ⟨⟨rfl, id, fun _ => id⟩, id, fun _ => id⟩

theorem modLot_keepsDrain (s : State) (i : LotId) (f : Lot → Lot) : s.KeepsDrain (s.modLot i f) :=
  ⟨⟨rfl, id, fun _ => id⟩, id, fun _ => id⟩

theorem modEntry_keepsDrain (s : State) (e : EntryId) {f : CacheEntry → CacheEntry}
    (hf : ∀ c, c.trendStarted → (f c).trendStarted) : s.KeepsDrain (s.modEntry e f) :=
  ⟨⟨rfl, id, fun _ => id⟩, id,
    modAt_rel (R := fun c d => c.trendStarted → d.trendStarted) (fun _ => id) s.cache e f (hf _)⟩

theorem modEntry_keepsWindows (s : State) (e : EntryId) (f : CacheEntry → CacheEntry) : s.KeepsWindows (s.modEntry e f) :=
  ⟨rfl, id, fun _ => id⟩

theorem storeOpt_keepsDrain (s : State) (w : Option (Nat × List Byte)) : s.KeepsDrain (s.storeOpt w) := by
  cases w <;> exact ⟨⟨rfl, id, fun _ => id⟩, id, fun _ => id⟩

theorem store_keepsDrain (s : State) (a : Nat) (bs : List Byte) : s.KeepsDrain (s.store a bs) :=
  ⟨⟨rfl, id, fun _ => id⟩, id, fun _ => id⟩

/-- The waiter sets and the lanes play no part. -/
theorem wakeRecipe_keepsDrain (s : State) : s.KeepsDrain s.wakeRecipe := by
  rw [State.wakeRecipe]
  exact ⟨⟨rfl, id, fun _ => id⟩, id, fun _ => id⟩

theorem wakeContext_keepsDrain (s : State) : s.KeepsDrain s.wakeContext := by
  rw [State.wakeContext]
  exact ⟨⟨rfl, id, fun _ => id⟩, id, fun _ => id⟩

theorem wakeLoading_keepsDrain (s : State) (e : EntryId) : s.KeepsDrain (s.wakeLoading e) := by
  rw [State.wakeLoading]
  exact ⟨⟨rfl, id, fun _ => id⟩, id, fun _ => id⟩

theorem wakeRecipeIf_keepsDrain (s : State) (b : Bool) : s.KeepsDrain (s.wakeRecipeIf b) := by
  cases b
  · exact .refl s
  · exact wakeRecipe_keepsDrain s

theorem laneFault_keepsDrain (s : State) (l : LaneId) (c : LaneFault) : s.KeepsDrain (s.laneFault l c) :=
  ⟨⟨rfl, id, fun _ => id⟩, id, fun _ => id⟩

theorem kickSlot_keepsDrain (s : State) (k : CtxId) : s.KeepsDrain (s.kickSlot k) := by
  obtain ⟨p, hp⟩ := kickSlot_frame s k
  rw [hp]
  exact modCtx_keepsDrain s k fun _ => id

theorem addJob_keepsDrain (s : State) (k : CtxId) (j : SlotJob) : s.KeepsDrain (s.addJob k j) :=
  (modCtx_keepsDrain s k (f := fun c => { c with jobs := c.jobs ++ [j] }) fun _ => id).trans (kickSlot_keepsDrain _ k)

theorem rewrite_keepsDrain (s : State) (k : CtxId) (why : RewriteFor) : s.KeepsDrain (s.rewrite k why) :=
  addJob_keepsDrain s k _

theorem raiseEvents_keepsDrain (s : State) (l : LaneId) (r : Recipe) (evs : List Event) :
    s.KeepsDrain (s.raiseEvents l r evs) := by
  rw [raiseEvents_eq]
  exact ⟨⟨rfl, id, fun _ => id⟩, id, fun _ => id⟩

theorem dropJob_keepsDrain (s : State) (k : CtxId) : s.KeepsDrain (s.dropJob k) := modCtx_keepsDrain s k fun _ => id

theorem windowClean_started (c : Ctx) : c.windowClean.windowStarted := by
  unfold Ctx.windowClean
  split <;> exact nofun

/-! ### The scanner and the lanes -/

theorem issueAt_keepsDrain (s : State) (p : PassPos) : s.KeepsDrain (s.issueAt p) := by
  cases p <;> exact ⟨⟨rfl, id, fun _ => id⟩, id, fun _ => id⟩

theorem passOver_keepsDrain (s : State) (ps : List PassPos) : s.KeepsDrain (s.passOver ps) := by
  unfold State.passOver
  split
  · exact issueAt_keepsDrain s _
  · exact ⟨⟨rfl, id, fun _ => id⟩, id, fun _ => id⟩

theorem passNext_keepsDrain (s : State) (p : PassPos) : s.KeepsDrain (s.passNext p) := by
  have hover := passOver_keepsDrain s (passOrder.drop (p.rank + 1))
  have hrescan (u : State) : u.KeepsDrain { u with scan := { u.scan with rescan := false } } :=
    ⟨⟨rfl, id, fun _ => id⟩, id, fun _ => id⟩
  unfold State.passNext
  dsimp only
  split_ifs
  · exact (hover.trans (hrescan _)).trans (passOver_keepsDrain _ _)
  · exact hover
  · exact ⟨⟨rfl, id, fun _ => id⟩, id, fun _ => id⟩

theorem lookDone_keepsDrain (s : State) (l : LaneId) (b : Bool) : s.KeepsDrain (s.lookDone l b) := by
  cases b
  · exact .refl s
  · exact passNext_keepsDrain s _

theorem chainLook_keepsDrain (s : State) (l : LaneId) : s.KeepsDrain (s.chainLook l) := by
  unfold State.chainLook
  split
  · exact modLane_keepsDrain s l _
  · exact .refl s

theorem lookAction_keepsDrain (s : State) (l : LaneId) (k : Look) (bad : Bool) : s.KeepsDrain (s.lookAction l k bad) := by
  have hclear : s.KeepsDrain (s.clearLook l) := modLane_keepsDrain s l _
  have hfault (c : LaneFault) := hclear.trans (laneFault_keepsDrain _ l c)
  unfold State.lookAction
  dsimp only
  repeat' split
  · exact hclear.trans (lookDone_keepsDrain _ l _)
  · exact (hfault _).trans (lookDone_keepsDrain _ l _)
  · exact hclear.trans (lookDone_keepsDrain _ l _)
  · exact modLane_keepsDrain s l _
  · exact (hclear.trans (modLane_keepsDrain _ l _)).trans (lookDone_keepsDrain _ l _)
  · exact modLane_keepsDrain s l _
  · exact (hfault _).trans (lookDone_keepsDrain _ l _)

theorem lookAnswered_keepsDrain (s : State) (l : LaneId) (k : Look) : s.KeepsDrain (s.lookAnswered l k) := by
  have hclear : s.KeepsDrain (s.clearLook l) := modLane_keepsDrain s l _
  unfold State.lookAnswered
  dsimp only
  repeat' split
  · exact hclear
  · refine State.KeepsDrain.trans (t := State.setHandback _ l) ?_ (chainLook_keepsDrain _ l)
    exact (hclear.trans (modLane_keepsDrain _ l _)).outside ..
  · exact hclear.trans (laneFault_keepsDrain _ l _)
  · exact hclear

theorem finishReturn_keepsDrain (s : State) (l : LaneId) : s.KeepsDrain (s.finishReturn l) := by
  refine State.KeepsDrain.trans (t := State.setHandback _ l) ?_ (chainLook_keepsDrain _ l)
  exact (modLane_keepsDrain s l _).outside ..

theorem returnWritten_keepsDrain (s : State) (l : LaneId) : s.KeepsDrain (s.returnWritten l) := by
  unfold State.returnWritten
  split
  · exact (modLane_keepsDrain s l _).trans (rewrite_keepsDrain _ _ _)
  · exact finishReturn_keepsDrain s l

theorem enableLane_keepsDrain (s : State) (l : LaneId) (bad : Bool) (d : Descriptor) : s.KeepsDrain (s.enableLane l bad d) := by
  unfold State.enableLane
  repeat' split
  · exact laneFault_keepsDrain s l _
  · exact modLane_keepsDrain s l _
  · exact laneFault_keepsDrain s l _

/-! ### Recipe loads and trend writebacks -/

theorem installLoad_keepsDrain (s : State) (e : EntryId) (src : Nat → Byte) : s.KeepsDrain (s.installLoad e src) := by
  unfold State.installLoad
  split
  · dsimp only
    apply State.KeepsDrain.outside
      (((modEntry_keepsDrain s e ?_).trans (wakeLoading_keepsDrain _ e)).trans (wakeRecipeIf_keepsDrain _ _))
    exact fun _ _ => nofun
  · dsimp only
    apply State.KeepsDrain.outside
      (((modEntry_keepsDrain s e ?_).trans (wakeLoading_keepsDrain _ e)).trans (wakeRecipe_keepsDrain _))
    exact fun _ => id

theorem trendStored_started (since addr : Nat) {c : CacheEntry} (h : c.trendStarted) : (c.trendStored since addr).trendStarted := by
  have hclean (hdeferred : ¬ c.deferred = true) (hdirty : c.dirty = true) : False := hdeferred (h hdirty).2
  unfold CacheEntry.trendStored
  dsimp only
  split
  · exact nofun
  · next hdeferred =>
    repeat' split
    all_goals exact fun hdirty => (hclean hdeferred hdirty).elim

theorem trendDone_keepsDrain (s : State) (e : EntryId) (w : TrendWrite) : s.KeepsDrain (s.trendDone e w) := by
  have hstored : s.KeepsDrain ((s.store w.addr w.bytes).modEntry e fun _ =>
      CacheEntry.trendStored (s.store w.addr w.bytes).past.length (s.trendAddr s.cache[e].number) s.cache[e]) :=
    ⟨⟨rfl, id, fun _ => id⟩, id,
      modAt_rel (R := fun c d => c.trendStarted → d.trendStarted) (fun _ => id) s.cache e _ (trendStored_started _ _)⟩
  exact hstored.trans (wakeRecipeIf_keepsDrain _ _)

/-! ### The Close Unit -/

theorem addJob_closing (s : State) (p : ClosePhase) (k : CtxId) (j : SlotJob) :
    s.KeepsWindows ({ s with closeUnit := p }.addJob k j) :=
  State.KeepsWindows.trans (t := { s with closeUnit := p }) ⟨rfl, id, fun _ => id⟩ (addJob_keepsDrain _ k j).toKeepsWindows

theorem closeTotals_keepsWindows (s : State) (k : CtxId) : s.KeepsWindows (s.closeTotals k) :=
  (modLot_keepsDrain s s.ctxs[k].lot (Lot.add · s.ctxs[k])).toKeepsWindows.trans (addJob_closing _ _ k _)

theorem closeTrend_keepsWindows (s : State) (k : CtxId) : s.KeepsWindows (s.closeTrend k) := by
  have hentry := modEntry_keepsWindows s s.ctxs[k].entry (CacheEntry.trendUpdated (s.recipeFor k) s.ctxs[k])
  have hlatched := hentry.trans (modCtx_keepsDrain _ k (f := fun c => { c with latched := { c.latched with trend := true } })
    fun _ => id).toKeepsWindows
  have hraised := hlatched.trans (raiseEvents_keepsDrain _ s.ctxs[k].lane (s.recipeFor k) [⟨.trendLow, true⟩]).toKeepsWindows
  unfold State.closeTrend
  dsimp only
  repeat' split
  · exact hraised.trans (addJob_closing _ _ k _)
  · exact hraised.trans (closeTotals_keepsWindows _ k)
  · exact hentry.trans (closeTotals_keepsWindows _ k)
  · exact closeTotals_keepsWindows s k

theorem closeRows_keepsWindows (s : State) (k : CtxId) : s.KeepsWindows (s.closeRows k) := by
  unfold State.closeRows
  split
  · exact ⟨rfl, id, fun _ => id⟩
  · exact closeTrend_keepsWindows s k

end

/-! ### What the operations of slots and of the Close Unit leave -/

section

variable (s : State)

@[simp] theorem State.kickSlot_merge (k : CtxId) : (s.kickSlot k).merge = s.merge := by
  obtain ⟨p, hp⟩ := kickSlot_frame s k
  rw [hp, State.modCtx_merge]

@[simp] theorem State.kickSlot_closeQ (k : CtxId) : (s.kickSlot k).closeQ = s.closeQ := by
  obtain ⟨p, hp⟩ := kickSlot_frame s k
  rw [hp, State.modCtx_closeQ]

@[simp] theorem State.kickSlot_closeUnit (k : CtxId) : (s.kickSlot k).closeUnit = s.closeUnit := by
  obtain ⟨p, hp⟩ := kickSlot_frame s k
  rw [hp, State.modCtx_closeUnit]

@[simp] theorem State.addJob_merge (k : CtxId) (j : SlotJob) : (s.addJob k j).merge = s.merge := by simp [State.addJob]

@[simp] theorem State.addJob_closeQ (k : CtxId) (j : SlotJob) : (s.addJob k j).closeQ = s.closeQ := by simp [State.addJob]

@[simp] theorem State.addJob_closeUnit (k : CtxId) (j : SlotJob) : (s.addJob k j).closeUnit = s.closeUnit := by
  simp [State.addJob]

@[simp] theorem State.rewrite_merge (k : CtxId) (why : RewriteFor) : (s.rewrite k why).merge = s.merge := s.addJob_merge k _

@[simp] theorem State.rewrite_closeQ (k : CtxId) (why : RewriteFor) : (s.rewrite k why).closeQ = s.closeQ :=
  s.addJob_closeQ k _

@[simp] theorem State.rewrite_closeUnit (k : CtxId) (why : RewriteFor) : (s.rewrite k why).closeUnit = s.closeUnit :=
  s.addJob_closeUnit k _

@[simp] theorem State.raiseEvents_merge (l : LaneId) (r : Recipe) (evs : List Event) :
    (s.raiseEvents l r evs).merge = s.merge := by rw [raiseEvents_eq]

@[simp] theorem State.raiseEvents_closeQ (l : LaneId) (r : Recipe) (evs : List Event) :
    (s.raiseEvents l r evs).closeQ = s.closeQ := by rw [raiseEvents_eq]

@[simp] theorem State.closeTotals_merge (k : CtxId) : (s.closeTotals k).merge = s.merge := by simp [State.closeTotals]

@[simp] theorem State.closeTotals_closeQ (k : CtxId) : (s.closeTotals k).closeQ = s.closeQ := by simp [State.closeTotals]

@[simp] theorem State.closeTotals_closeUnit (k : CtxId) : (s.closeTotals k).closeUnit = .summary := by
  simp [State.closeTotals]

@[simp] theorem State.closeTrend_merge (k : CtxId) : (s.closeTrend k).merge = s.merge := by
  unfold State.closeTrend
  dsimp only
  repeat' split
  all_goals simp

@[simp] theorem State.closeTrend_closeQ (k : CtxId) : (s.closeTrend k).closeQ = s.closeQ := by
  unfold State.closeTrend
  dsimp only
  repeat' split
  all_goals simp

@[simp] theorem State.closeRows_merge (k : CtxId) : (s.closeRows k).merge = s.merge := by
  unfold State.closeRows
  split
  · rfl
  · exact s.closeTrend_merge k

@[simp] theorem State.closeRows_closeQ (k : CtxId) : (s.closeRows k).closeQ = s.closeQ := by
  unfold State.closeRows
  split
  · rfl
  · exact s.closeTrend_closeQ k

@[simp] theorem State.setHold_merge (l : LaneId) : (s.setHold l).merge = s.merge := rfl

@[simp] theorem State.serve_merge : s.serve.merge = s.merge := by
  unfold State.serve State.beginCtxItem State.beginLotItem
  dsimp only
  repeat' split
  all_goals simp

@[simp] theorem State.closeContext_merge (k : CtxId) (cause : CloseCause) (why : RewriteFor) :
    (s.closeContext k cause why).merge = s.merge := by
  unfold State.closeContext State.enqueue
  simp

@[simp] theorem State.storeOpt_closeQ (w : Option (Nat × List Byte)) : (s.storeOpt w).closeQ = s.closeQ := by cases w <;> rfl

@[simp] theorem State.storeOpt_merge (w : Option (Nat × List Byte)) : (s.storeOpt w).merge = s.merge := by cases w <;> rfl

/-! ### A record that goes on stays in merge -/

theorem conclude_merging (m : Merge) (w : Option Word) (code : Byte) : (s.conclude m w code).merge ≠ none := by
  cases w <;> exact nofun

theorem awaitRewrite_merging (m : Merge) (k : CtxId) (w : Option Word) (code : Byte) :
    (s.awaitRewrite m k w code).merge ≠ none := by simp [State.awaitRewrite]

theorem evaluateMerge_merging (m : Merge) (k : CtxId) (w : Option Word) (code : Byte) :
    (s.evaluateMerge m k w code).merge ≠ none := by
  unfold State.evaluateMerge
  dsimp only
  split
  · exact awaitRewrite_merging _ _ _ _ _
  · exact conclude_merging _ _ _ _

theorem touchdownEnd_merging (m : Merge) (k : CtxId) : (s.touchdownEnd m k).merge ≠ none := by
  unfold State.touchdownEnd
  split
  · exact evaluateMerge_merging _ _ _ _ _
  · exact nofun

theorem continueTouchdown_merging (m : Merge) (k : CtxId) : (s.continueTouchdown m k).merge ≠ none := by
  unfold State.continueTouchdown
  split
  · exact touchdownEnd_merging _ _ _
  · exact nofun
  · exact nofun

theorem continueAdjust_merging (m : Merge) (k : CtxId) : (s.continueAdjust m k).merge ≠ none := by
  unfold State.continueAdjust
  split
  · exact nofun
  · split
    · exact evaluateMerge_merging _ _ _ _ _
    · exact nofun
    · exact nofun

theorem continueMerge_merging (m : Merge) (k : CtxId) : (s.continueMerge m k).merge ≠ none := by
  unfold State.continueMerge
  split
  · exact continueTouchdown_merging _ _ _
  · exact continueAdjust_merging _ _ _

theorem afterWriteback_merging (m : Merge) (k : CtxId) (y : RowId) (h : s.merge ≠ none) :
    (s.afterWriteback m k y).merge ≠ none := by
  unfold State.afterWriteback
  split
  · exact continueMerge_merging _ _ _
  · exact nofun
  · exact h

/-! ### The parts of a CONTROL write -/

theorem refuse_keepsDrain : s.KeepsDrain s.refuse := (State.KeepsDrain.refl s).outside ..

theorem runPart_drainsOn (v : Bool) : s.DrainsOn (s.runPart v) := by
  have hself : s.KeepsDrain { s with control := { s.control with run := v } } := (State.KeepsDrain.refl s).outside ..
  cases v
  · show s.DrainsOn (State.runOff _)
    unfold State.runOff
    repeat' split
    · exact drainsOn_of_run (by simp_all)
    · exact hself.drainsOn
    · exact drainsOn_drainWork _ _
    · exact State.KeepsDrain.drainsOn ⟨⟨rfl, id, fun _ => id⟩, id, fun _ => id⟩
    · exact hself.drainsOn
  · show s.DrainsOn (State.runOn _)
    unfold State.runOn
    repeat' split
    · exact drainsOn_of_run (by simp_all)
    · exact drainsOn_of_run nofun
    · exact drainsOn_of_run (by simp_all)
    · exact State.KeepsDrain.drainsOn ⟨⟨rfl, id, fun _ => id⟩, id, fun _ => id⟩
    · exact hself.drainsOn
    · exact hself.drainsOn

theorem clearPart_drainsOn (landed : List Host.Cell) : s.DrainsOn (s.clearPart landed) := by
  unfold State.clearPart
  split
  · exact drainsOn_of_run nofun
  · exact (refuse_keepsDrain s).drainsOn

/-- What an event leaves of the run state. -/
theorem drainsOn_of_engine {t : State} (hengine : t.engine = s.engine) (h : s.engine.run ≠ .draining) : s.DrainsOn t :=
  drainsOn_of_run (by rw [hengine]; exact h)

theorem flushPart_drainsOn : s.DrainsOn s.flushPart := by
  unfold State.flushPart
  split
  · next hrun => exact drainsOn_of_engine s (congrArg Base.engine s.flush_base) (by rcases hrun with h | h <;> simp [h])
  · exact (refuse_keepsDrain s).drainsOn

theorem scanNowPart_drainsOn : s.DrainsOn s.scanNowPart := by
  by_cases hrun : s.engine.run = .running
  · exact drainsOn_of_engine s (congrArg Base.engine s.scanNowPart_base) (by simp [hrun])
  · rw [State.scanNowPart, if_neg hrun]
    exact drainsOn_refl s

theorem controlWrite_drainsOn (v : Word) : s.DrainsOn (s.controlWrite v) := by
  have part {u : State} (h : s.DrainsOn u) (b : Bool) {w : State} (hw : u.DrainsOn w) : s.DrainsOn (if b then w else u) := by
    cases b
    · exact h
    · exact h.trans hw
  have hclear := part (drainsOn_refl s) (v.getLsbD (16 + 2) && v.getLsbD 2) (clearPart_drainsOn s [])
  have hrun := part hclear (v.getLsbD (16 + 0)) (runPart_drainsOn _ (v.getLsbD 0))
  have hflush := part hrun (v.getLsbD (16 + 3) && v.getLsbD 3) (flushPart_drainsOn _)
  have hscan := part hflush (v.getLsbD (16 + 1) && v.getLsbD 1) (scanNowPart_drainsOn _)
  exact hscan

end

/-! ### Every command keeps the work of a drain started -/

section

variable (s : State)

theorem laneCommand_drainsOn (code : CmdCode) (l : LaneId) : s.DrainsOn (s.laneCommand code l) := by
  unfold State.laneCommand
  split
  · exact (refuse_keepsDrain s).drainsOn
  · next hbusy =>
    have hprogress : s.command.progress = .none := by simpa [State.commandBusy] using hbusy
    have hreadback (o : Outcome) : s.KeepsDrain (s.readback code l o) :=
      ⟨⟨rfl, id, fun _ => id⟩, fun ⟨_, hqueue, hunit⟩ => ⟨by simp [hprogress], hqueue, hunit⟩, fun _ => id⟩
    split
    · exact (hreadback _).drainsOn
    · split
      · exact (hreadback _).drainsOn
      · next hrun =>
        exact drainsOn_of_engine s (congrArg Base.engine (s.laneCommandTaken_base code l)) (by simp_all)

theorem State.secondPasses_engine : s.secondPasses.engine = s.engine := by rw [State.secondPasses]

theorem Ctx.windowClean_dirty (c : Ctx) : c.windowClean.dirty = false := by
  unfold Ctx.windowClean
  split <;> rfl

/-- With an item in the close queue no trend writeback is due. -/
theorem closing_of_queue {t : State} {i : CloseItem} {tail : List CloseItem} (h : t.closeQ = i :: tail) : ¬ t.trendDue :=
  fun ⟨_, hqueue, _⟩ => absurd (h.symm.trans hqueue) nofun

theorem closeRows_drainsOn {t : State} {i : CloseItem} {tail : List CloseItem} (h : s.KeepsWindows t)
    (hqueue : t.closeQ = i :: tail) (k : CtxId) : s.DrainsOn (t.closeRows k) :=
  (h.trans (closeRows_keepsWindows t k)).drainsOn (closing_of_queue ((t.closeRows_closeQ k).trans hqueue))

theorem State.hallTick_engine : s.hallTick.engine = s.engine := by
  have htimer : (if s.engine.config.scanInterval ≤ s.scan.timer + 1 then s.timerExpires
      else { s with scan := { s.scan with timer := s.scan.timer + 1 } }).engine = s.engine := by
    split
    · exact congrArg Base.engine s.timerExpires_base
    · rfl
  unfold State.hallTick
  dsimp only
  split
  · split
    · rw [State.secondPasses_engine]
      exact htimer
    · exact htimer
  · rfl

theorem probeAddr_drainsOn (word : BitVec 11) (index : BitVec 5) (region : BitVec 3) (isWrite : Bool) :
    s.DrainsOn (s.probeAddr word index region isWrite) := by
  have h := State.KeepsDrain.refl s
  unfold State.probeAddr
  split
  · exact (h.outside ..).drainsOn
  · exact (h.outside ..).drainsOn

theorem execCommonBase_drainsOn (v : Word) : leadsTo (execCommonBase v s) s.DrainsOn := by
  have h := State.KeepsDrain.refl s
  unfold execCommonBase State.commonBasePart
  split
  · exact (h.outside ..).drainsOn
  · exact (refuse_keepsDrain s).drainsOn

theorem execRegisterWrite_drainsOn (offset bytes : Nat) (v : Word) :
    leadsTo (execRegisterWrite offset bytes v s) s.DrainsOn := by
  have h := State.KeepsDrain.refl s
  unfold execRegisterWrite State.narrowWritten State.registerWritten
  repeat' split
  · exact (refuse_keepsDrain s).drainsOn
  · exact (refuse_keepsDrain s).drainsOn
  · exact drainsOn_refl s
  · exact controlWrite_drainsOn s v
  · exact execCommonBase_drainsOn s v
  · exact laneCommand_drainsOn s _ _
  · exact (h.outside ..).drainsOn
  · exact (h.outside ..).drainsOn
  · exact probeAddr_drainsOn s _ _ _ _
  · exact (h.outside ..).drainsOn
  · exact drainsOn_refl s

theorem writeLimit_keepsDrain (k : CtxId) (v : Word) : s.KeepsDrain (s.writeLimit k v) := by
  have hctx := modCtx_keepsDrain s k (f := Ctx.limitWritten v) fun _ => id
  exact ⟨⟨rfl, Option.map_eq_none_iff.1, hctx.ctx⟩, id, fun _ => id⟩

theorem execProbeWriteStore_drainsOn : leadsTo (execProbeWriteStore s) s.DrainsOn := by
  have hended {t : State} (h : s.KeepsDrain t) (b : Bool) : s.DrainsOn { t with probe := s.probe.ended b } :=
    (h.outside ..).drainsOn
  unfold execProbeWriteStore State.probeStore
  dsimp only
  split
  · split
    · next t ht =>
      split_ifs at ht with hlimit hk hopen hpriority hl
      · obtain rfl := Option.some.inj ht
        exact hended (writeLimit_keepsDrain s _ _) false
      · obtain rfl := Option.some.inj ht
        exact hended (modLane_keepsDrain s _ _) false
    · exact hended (.refl s) true
  · exact drainsOn_refl s

theorem coldLane_engine (l : LaneId) (bad : Bool) (d : Descriptor) : (s.coldLane l bad d).engine = s.engine :=
  congrArg Base.engine (s.coldLane_base l bad d)

/-- The work that waited for a rewrite goes on, and the slot's next write begins. -/
theorem afterRewrite_drainsOn {t : State} (h : s.KeepsDrain t) (k : CtxId) (why : RewriteFor) :
    s.DrainsOn ((t.afterRewrite k why).kickSlot k) := by
  have hkick (u : State) := kickSlot_keepsDrain u k
  unfold State.afterRewrite
  repeat' split
  · exact drainsOn_of_merge (by rw [State.kickSlot_merge]; exact conclude_merging _ _ _ _)
  · exact (h.trans (hkick _)).drainsOn
  · exact (h.trans (hkick _)).drainsOn
  · exact ((h.trans (finishReturn_keepsDrain t _)).trans (hkick _)).drainsOn
  · refine ((h.toKeepsWindows.trans (closeTotals_keepsWindows t k)).trans (hkick _).toKeepsWindows).drainsOn ?_
    rintro ⟨-, -, hunit⟩
    rw [State.kickSlot_closeUnit, t.closeTotals_closeUnit k] at hunit
    exact absurd hunit nofun
  · exact (h.trans (hkick _)).drainsOn

theorem startDone_drainsOn (t : State) : s.DrainsOn t.startDone := by
  unfold State.startDone
  dsimp only
  split
  · exact drainsOn_drainWork s _
  · exact drainsOn_of_run nofun

theorem enableLane_command (l : LaneId) (bad : Bool) (d : Descriptor) : (s.enableLane l bad d).command = s.command := by
  unfold State.enableLane
  repeat' split
  all_goals rfl

theorem execProbeReadAnswer_drainsOn : leadsTo (execProbeReadAnswer s) s.DrainsOn := by
  unfold execProbeReadAnswer
  repeat' split
  · exact ((State.KeepsDrain.refl s).outside ..).drainsOn
  · exact ((State.KeepsDrain.refl s).outside ..).drainsOn
  · exact drainsOn_refl s


theorem execScanTimerExpiry_drainsOn : leadsTo (execScanTimerExpiry s) s.DrainsOn := by
  unfold execScanTimerExpiry
  split
  · next hrun => exact drainsOn_of_engine s (congrArg Base.engine s.timerExpires_base) (by simp [hrun])
  · exact drainsOn_refl s


theorem execSecondEvent_drainsOn : leadsTo (execSecondEvent s) s.DrainsOn := by
  unfold execSecondEvent
  split
  · next hrun => exact drainsOn_of_engine s (s.secondPasses_engine) (by simp [hrun])
  · exact drainsOn_refl s


theorem execIdleExpiry_drainsOn (k : CtxId) : leadsTo (execIdleExpiry k s) s.DrainsOn := by
  unfold execIdleExpiry
  split
  · next h =>
    have hrun : s.engine.run ≠ .draining := by simp [h.1]
    split
    · exact drainsOn_of_engine s rfl hrun
    · exact drainsOn_of_engine (t := (s.expiryOver k).expire k) s (congrArg Base.engine (State.expire_base _ k)) hrun
  · exact drainsOn_refl s


theorem execLook_drainsOn (l : LaneId) (bad : Bool) : leadsTo (execLook l bad s) s.DrainsOn := by
  unfold execLook
  repeat' split
  · exact (lookAction_keepsDrain s l _ bad).drainsOn
  all_goals exact drainsOn_refl s

theorem execLookReturnWritten_drainsOn (l : LaneId) : leadsTo (execLookReturnWritten l s) s.DrainsOn := by
  unfold execLookReturnWritten
  repeat' split
  · exact (((storeOpt_keepsDrain s _).trans (lookAnswered_keepsDrain _ l _)).trans (lookDone_keepsDrain _ l _)).drainsOn
  all_goals exact drainsOn_refl s

theorem execSummarySlotRead_drainsOn (k : CtxId) (r : ReadEnd) : leadsTo (execSummarySlotRead k r s) s.DrainsOn := by
  unfold execSummarySlotRead
  repeat' split
  · exact drainsOn_of_run nofun
  · refine (((modCtx_keepsDrain s k ?_).trans (wakeContext_keepsDrain _)).trans (passNext_keepsDrain _ _)).drainsOn
    exact fun _ _ => nofun
  · exact (passNext_keepsDrain s _).drainsOn
  · exact drainsOn_refl s


theorem execLotSlotRead_drainsOn (i : LotId) (r : ReadEnd) : leadsTo (execLotSlotRead i r s) s.DrainsOn := by
  unfold execLotSlotRead
  repeat' split
  · exact drainsOn_of_run nofun
  · exact ((modLot_keepsDrain s i _).trans (passNext_keepsDrain _ _)).drainsOn
  · exact (passNext_keepsDrain s _).drainsOn
  · exact drainsOn_refl s


theorem execGrant_drainsOn : leadsTo (execGrant s) s.DrainsOn := by
  unfold execGrant
  split
  · next l hm hl =>
    have hcandidate : s.isCandidate l = true := (List.mem_filter.1 (List.mem_of_find?_eq_some hl)).2
    have hrun : s.engine.run = .running := by
      simp only [State.isCandidate, Bool.and_eq_true, decide_eq_true_eq] at hcandidate
      exact hcandidate.1.1.2
    exact drainsOn_of_engine s (congrArg Base.engine (s.grantLane_base l)) (by simp [hrun])
  · exact drainsOn_refl s


theorem execOpenRecord_drainsOn : leadsTo (execOpenRecord s) s.DrainsOn := by
  unfold execOpenRecord
  split
  · exact drainsOn_refl s
  · exact drainsOn_drainWork s _


theorem execTouchdown_drainsOn : leadsTo (execTouchdown s) s.DrainsOn := by
  unfold execTouchdown
  repeat' split
  · exact drainsOn_refl s
  · exact drainsOn_of_merge nofun
  · exact drainsOn_of_merge nofun
  · exact drainsOn_of_merge (continueTouchdown_merging s _ _)


theorem execAdjust_drainsOn : leadsTo (execAdjust s) s.DrainsOn := by
  unfold execAdjust
  repeat' split
  · exact drainsOn_refl s
  · exact drainsOn_of_merge nofun
  · exact drainsOn_of_merge nofun
  · exact drainsOn_of_merge (continueAdjust_merging s _ _)


theorem execClose_drainsOn : leadsTo (execClose s) s.DrainsOn := by
  unfold execClose
  repeat' split
  · exact drainsOn_refl s
  · exact drainsOn_of_merge nofun
  · exact drainsOn_of_merge nofun
  · exact drainsOn_of_merge fun h => absurd ((State.closeContext_merge _ _ _ _).symm.trans h) nofun


theorem execLotEnd_drainsOn : leadsTo (execLotEnd s) s.DrainsOn := by
  unfold execLotEnd
  repeat' split
  · exact drainsOn_refl s
  · exact drainsOn_of_merge nofun
  · exact drainsOn_of_merge nofun
  · exact drainsOn_of_merge nofun


theorem execNop_drainsOn : leadsTo (execNop s) s.DrainsOn := by
  unfold execNop
  split
  · exact drainsOn_refl s
  · exact drainsOn_of_merge nofun


theorem execBadKind_drainsOn : leadsTo (execBadKind s) s.DrainsOn := by
  unfold execBadKind
  split
  · exact drainsOn_refl s
  · exact drainsOn_of_merge nofun


theorem execRecordReadError_drainsOn : leadsTo (execRecordReadError s) s.DrainsOn := by
  unfold execRecordReadError
  repeat' split
  · exact drainsOn_of_merge nofun
  all_goals exact drainsOn_refl s

theorem execRowWritebackDone_drainsOn : leadsTo (execRowWritebackDone s) s.DrainsOn := by
  unfold execRowWritebackDone
  repeat' split
  · next m hm _ _ y k hphase hctx hworking =>
    refine drainsOn_of_merge (afterWriteback_merging _ _ _ _ ?_)
    rw [State.modCtx_merge, State.storeOpt_merge, hm]
    exact nofun
  all_goals exact drainsOn_refl s

theorem execRowFetchDone_drainsOn (r : ReadEnd) : leadsTo (execRowFetchDone r s) s.DrainsOn := by
  unfold execRowFetchDone
  repeat' split
  · exact drainsOn_of_run nofun
  · exact drainsOn_of_merge (continueMerge_merging _ _ _)
  all_goals exact drainsOn_refl s

theorem execSiteWordWritten_drainsOn : leadsTo (execSiteWordWritten s) s.DrainsOn := by
  unfold execSiteWordWritten
  repeat' split
  · exact drainsOn_of_merge nofun
  all_goals exact drainsOn_refl s

theorem execDispositionWritten_drainsOn : leadsTo (execDispositionWritten s) s.DrainsOn := by
  unfold execDispositionWritten
  repeat' split
  · exact drainsOn_drainWork s _
  all_goals exact drainsOn_refl s

theorem execHandoverLiveWritten_drainsOn : leadsTo (execHandoverLiveWritten s) s.DrainsOn := by
  unfold execHandoverLiveWritten
  repeat' split
  · exact drainsOn_of_merge nofun
  · exact drainsOn_refl s
  · exact drainsOn_of_merge fun h => absurd ((State.kickSlot_merge _ _).symm.trans h) nofun
  all_goals exact drainsOn_refl s

theorem execLiveGenOddWritten_drainsOn (k : CtxId) : leadsTo (execLiveGenOddWritten k s) s.DrainsOn := by
  unfold execLiveGenOddWritten
  repeat' split
  · refine ((storeOpt_keepsDrain s _).trans (modCtx_keepsDrain _ k ?_)).drainsOn
    exact fun _ => id
  all_goals exact drainsOn_refl s

theorem execLiveContentsWritten_drainsOn (k : CtxId) : leadsTo (execLiveContentsWritten k s) s.DrainsOn := by
  unfold execLiveContentsWritten
  repeat' split
  · refine ((storeOpt_keepsDrain s _).trans (modCtx_keepsDrain _ k ?_)).drainsOn
    exact fun _ => id
  all_goals exact drainsOn_refl s

theorem execLiveBlockWritten_drainsOn (k : CtxId) : leadsTo (execLiveBlockWritten k s) s.DrainsOn := by
  unfold execLiveBlockWritten
  repeat' split
  · next why _ hphase hjobs hworking =>
    have hstored := (storeOpt_keepsDrain s (s.slotWrite k)).trans (modCtx_keepsDrain _ k
      (f := fun c => { c with generation := c.generation + 2 }) fun _ => id)
    exact afterRewrite_drainsOn s (hstored.trans (dropJob_keepsDrain _ k)) k why
  all_goals exact drainsOn_refl s

theorem execHalfReturnWritten_drainsOn (l : LaneId) : leadsTo (execHalfReturnWritten l s) s.DrainsOn := by
  unfold execHalfReturnWritten
  split
  · exact ((storeOpt_keepsDrain s _).trans (returnWritten_keepsDrain _ l)).drainsOn
  · exact drainsOn_refl s


theorem execRetireCarryOut_drainsOn : leadsTo (execRetireCarryOut s) s.DrainsOn := by
  unfold execRetireCarryOut
  repeat' split
  · exact (drainsOn_drainWork s _).announce s
  all_goals exact drainsOn_refl s

theorem execSkippedWritten_drainsOn : leadsTo (execSkippedWritten s) s.DrainsOn := by
  unfold execSkippedWritten
  repeat' split
  · next l hprogress hworking =>
    exact State.KeepsDrain.drainsOn ⟨⟨rfl, id, fun _ => id⟩,
      fun ⟨_, hqueue, hunit⟩ => ⟨by simp [hprogress], hqueue, hunit⟩, fun _ => id⟩
  all_goals exact drainsOn_refl s

theorem execRetireReturnWritten_drainsOn : leadsTo (execRetireReturnWritten s) s.DrainsOn := by
  unfold execRetireReturnWritten
  repeat' split
  · exact (drainsOn_drainWork s _).announce s
  all_goals exact drainsOn_refl s

theorem execRecipeLoadDone_drainsOn (e : EntryId) (early : List Host.Cell) (r : ReadEnd) :
    leadsTo (execRecipeLoadDone e early r s) s.DrainsOn := by
  unfold execRecipeLoadDone
  repeat' split
  · exact drainsOn_of_run nofun
  · exact ((installLoad_keepsDrain s e _).outside ..).drainsOn
  all_goals exact drainsOn_refl s

theorem execTrendWritebackDone_drainsOn (e : EntryId) : leadsTo (execTrendWritebackDone e s) s.DrainsOn := by
  unfold execTrendWritebackDone
  repeat' split
  · exact (trendDone_keepsDrain s e _).drainsOn
  all_goals exact drainsOn_refl s

theorem execCloseWindowWritten_drainsOn : leadsTo (execCloseWindowWritten s) s.DrainsOn := by
  unfold execCloseWindowWritten
  repeat' split
  · next k tail hunit hqueue hworking =>
    have hclean := ((storeOpt_keepsDrain s s.closeWrite).trans (modCtx_keepsDrain _ k fun c _ =>
      windowClean_started c)).toKeepsWindows
    exact (closeRows_drainsOn s hclean ((s.storeOpt_closeQ s.closeWrite).trans hqueue) k).announce s
  all_goals exact drainsOn_refl s

theorem execMaterializeRowWritten_drainsOn : leadsTo (execMaterializeRowWritten s) s.DrainsOn := by
  unfold execMaterializeRowWritten
  repeat' split
  · next y k tail hunit hqueue hworking =>
    have hclean := ((storeOpt_keepsDrain s s.closeWrite).trans (modCtx_keepsDrain _ k
      (f := fun c => { c with rowsDone := c.rowsDone.set y true }) fun _ => id)).toKeepsWindows
    exact (closeRows_drainsOn s hclean ((s.storeOpt_closeQ s.closeWrite).trans hqueue) k).announce s
  all_goals exact drainsOn_refl s

theorem execSummaryWritten_drainsOn : leadsTo (execSummaryWritten s) s.DrainsOn := by
  unfold execSummaryWritten
  repeat' split
  · next k tail hunit hqueue hworking =>
    refine (((storeOpt_keepsDrain s (s.slotWrite k)).trans (dropJob_keepsDrain _ k)).toKeepsWindows.trans
      (addJob_closing _ .posting k .posted)).drainsOn ?_
    rintro ⟨-, -, hunit'⟩
    rw [State.addJob_closeUnit] at hunit'
    exact absurd hunit' nofun
  all_goals exact drainsOn_refl s

theorem execPostedWritten_drainsOn : leadsTo (execPostedWritten s) s.DrainsOn := by
  unfold execPostedWritten
  repeat' split
  · exact (drainsOn_drainWork s _).announce s
  all_goals exact drainsOn_refl s

theorem execLotSummaryWritten_drainsOn : leadsTo (execLotSummaryWritten s) s.DrainsOn := by
  unfold execLotSummaryWritten
  repeat' split
  · refine State.KeepsWindows.drainsOn ((storeOpt_keepsDrain s s.closeWrite).toKeepsWindows.trans ⟨rfl, id, fun _ => id⟩) ?_
    exact fun ⟨_, _, hunit⟩ => absurd hunit nofun
  all_goals exact drainsOn_refl s

theorem execLotPostedWritten_drainsOn : leadsTo (execLotPostedWritten s) s.DrainsOn := by
  unfold execLotPostedWritten
  repeat' split
  · exact (drainsOn_drainWork s _).announce s
  all_goals exact drainsOn_refl s

theorem execDrainWindowWritten_drainsOn (k : CtxId) : leadsTo (execDrainWindowWritten k s) s.DrainsOn := by
  unfold execDrainWindowWritten
  split
  · refine ((storeOpt_keepsDrain s _).trans (modCtx_keepsDrain _ k fun c _ => ?_)).drainsOn
    exact fun _ hdirty _ => absurd (c.windowClean_dirty.symm.trans hdirty) nofun
  · exact drainsOn_refl s


theorem execDrainEnd_drainsOn : leadsTo (execDrainEnd s) s.DrainsOn := by
  unfold execDrainEnd
  repeat' split
  · exact drainsOn_of_run nofun
  · exact drainsOn_of_run nofun
  · exact drainsOn_refl s


theorem execCommonHeaderRead_drainsOn (bad : Bool) : leadsTo (execCommonHeaderRead bad s) s.DrainsOn := by
  unfold execCommonHeaderRead
  dsimp only
  split
  · next h =>
    split
    · exact drainsOn_of_run (by simp [h.1])
    · exact drainsOn_of_run nofun
  · exact drainsOn_refl s


theorem execColdDescriptorRead_drainsOn (bad : Bool) : leadsTo (execColdDescriptorRead bad s) s.DrainsOn := by
  unfold execColdDescriptorRead
  dsimp only
  split
  · next l hl =>
    split
    · next hrun =>
      split
      · refine drainsOn_of_run ?_
        show (s.coldLane l bad _).engine.run ≠ .draining
        rw [coldLane_engine, hrun]
        exact nofun
      · exact startDone_drainsOn s _
    · exact drainsOn_refl s
  · exact drainsOn_refl s

theorem execEnableDescriptorRead_drainsOn (bad : Bool) : leadsTo (execEnableDescriptorRead bad s) s.DrainsOn := by
  unfold execEnableDescriptorRead
  repeat' split
  · next l hprogress hworking =>
    refine State.KeepsDrain.drainsOn ((enableLane_keepsDrain s l bad _).trans ⟨⟨rfl, id, fun _ => id⟩, ?_, fun _ => id⟩)
    rintro ⟨-, hqueue, hunit⟩
    refine ⟨fun l' => ?_, hqueue, hunit⟩
    rw [enableLane_command, hprogress]
    exact nofun
  all_goals exact drainsOn_refl s

theorem execHalfFaultedReturnWritten_drainsOn : leadsTo (execHalfFaultedReturnWritten s) s.DrainsOn := by
  unfold execHalfFaultedReturnWritten
  repeat' split
  · exact (drainsOn_drainWork s _).announce s
  all_goals exact drainsOn_refl s

theorem execMemoryWindowWrite_drainsOn (addr : Word) (data : List Byte) :
    leadsTo (execMemoryWindowWrite addr data s) s.DrainsOn := by
  unfold execMemoryWindowWrite
  split
  · exact (store_keepsDrain s _ _).drainsOn
  · trivial

/-- What a command makes of the work of a drain. -/
theorem exec_drainsOn (c : Instr) : leadsTo (exec c s) s.DrainsOn := by
  have h := State.KeepsDrain.refl s
  cases c with
  | powerOnReset d => exact drainsOn_of_run nofun
  | portReset d => exact drainsOn_of_run nofun
  | run value => exact runPart_drainsOn s value
  | scanNow => exact scanNowPart_drainsOn s
  | clear landed => exact clearPart_drainsOn s landed
  | flushRecipes => exact flushPart_drainsOn s
  | interruptEnables mask value => exact (h.outside ..).drainsOn
  | interruptMode each => exact (h.outside ..).drainsOn
  | commonBase value => exact execCommonBase_drainsOn s value
  | enable lane => exact laneCommand_drainsOn s _ lane
  | disable lane => exact laneCommand_drainsOn s _ lane
  | hold lane => exact laneCommand_drainsOn s _ lane
  | release lane => exact laneCommand_drainsOn s _ lane
  | retire lane => exact laneCommand_drainsOn s _ lane
  | badCommand code lane => exact laneCommand_drainsOn s code lane
  | noticeClear hi bits => exact (h.outside ..).drainsOn
  | engineStateRead first bytes => exact (h.outside ..).drainsOn
  | probeRead word index region => exact probeAddr_drainsOn s word index region false
  | probeWrite word index region => exact probeAddr_drainsOn s word index region true
  | registerWrite offset bytes value => exact execRegisterWrite_drainsOn s offset bytes value
  | probeWriteStore => exact execProbeWriteStore_drainsOn s
  | interruptMessageSent => exact (h.outside ..).drainsOn
  | probeReadAnswer => exact execProbeReadAnswer_drainsOn s
  | scanTimerExpiry => exact execScanTimerExpiry_drainsOn s
  | secondEvent => exact execSecondEvent_drainsOn s
  | idleExpiry k => exact execIdleExpiry_drainsOn s k
  | look l bad => exact execLook_drainsOn s l bad
  | lookReturnWritten l => exact execLookReturnWritten_drainsOn s l
  | summarySlotRead k r => exact execSummarySlotRead_drainsOn s k r
  | lotSlotRead i r => exact execLotSlotRead_drainsOn s i r
  | grant => exact execGrant_drainsOn s
  | openRecord => exact execOpenRecord_drainsOn s
  | touchdown => exact execTouchdown_drainsOn s
  | adjust => exact execAdjust_drainsOn s
  | close => exact execClose_drainsOn s
  | lotEnd => exact execLotEnd_drainsOn s
  | nop => exact execNop_drainsOn s
  | badKind => exact execBadKind_drainsOn s
  | recordReadError => exact execRecordReadError_drainsOn s
  | rowWritebackDone => exact execRowWritebackDone_drainsOn s
  | rowFetchDone r => exact execRowFetchDone_drainsOn s r
  | siteWordWritten => exact execSiteWordWritten_drainsOn s
  | dispositionWritten => exact execDispositionWritten_drainsOn s
  | handoverLiveWritten => exact execHandoverLiveWritten_drainsOn s
  | liveGenOddWritten k => exact execLiveGenOddWritten_drainsOn s k
  | liveContentsWritten k => exact execLiveContentsWritten_drainsOn s k
  | liveBlockWritten k => exact execLiveBlockWritten_drainsOn s k
  | halfReturnWritten l => exact execHalfReturnWritten_drainsOn s l
  | retireCarryOut => exact execRetireCarryOut_drainsOn s
  | skippedWritten => exact execSkippedWritten_drainsOn s
  | retireReturnWritten => exact execRetireReturnWritten_drainsOn s
  | recipeLoadDone e early r => exact execRecipeLoadDone_drainsOn s e early r
  | trendWritebackDone e => exact execTrendWritebackDone_drainsOn s e
  | closeWindowWritten => exact execCloseWindowWritten_drainsOn s
  | materializeRowWritten => exact execMaterializeRowWritten_drainsOn s
  | summaryWritten => exact execSummaryWritten_drainsOn s
  | postedWritten => exact execPostedWritten_drainsOn s
  | lotSummaryWritten => exact execLotSummaryWritten_drainsOn s
  | lotPostedWritten => exact execLotPostedWritten_drainsOn s
  | drainWindowWritten k => exact execDrainWindowWritten_drainsOn s k
  | drainEnd => exact execDrainEnd_drainsOn s
  | commonHeaderRead bad => exact execCommonHeaderRead_drainsOn s bad
  | coldDescriptorRead bad => exact execColdDescriptorRead_drainsOn s bad
  | enableDescriptorRead bad => exact execEnableDescriptorRead_drainsOn s bad
  | halfFaultedReturnWritten => exact execHalfFaultedReturnWritten_drainsOn s
  | memoryWindowWrite addr data => exact execMemoryWindowWrite_drainsOn s addr data

/-- A hall tick acts in RUNNING alone. -/
theorem hallTick_drainsOn : s.DrainsOn s.hallTick := by
  by_cases hrun : s.engine.run = .running
  · exact drainsOn_of_engine s s.hallTick_engine (by simp [hrun])
  · rw [State.hallTick, if_neg hrun]
    exact drainsOn_refl s

end

/-- Settles O60, by what each command makes of the work of a drain. -/
theorem drainWorkStaysStarted : Obligations.DrainWorkStaysStarted := by
  intro s t hs h
  unfold step at h
  split at h
  · next c cs hpending => exact of_leadsTo (exec_drainsOn { s with pending := cs } c) h hs
  · obtain rfl := Host.Outcome.next.inj h
    exact hallTick_drainsOn s hs

end Sys2Proof.Machine
end

section
/-!
PROOFS. The step, the resets, CLEAR, RUN, the drain and the cold start (chapter 8). They settle O1 to O7.
-/

namespace Sys2Proof.Machine

/-! ### The step -/

/-- Settles O1. -/
theorem frontCommandRuns : Obligations.FrontCommandRuns := by
  intro c cs s h
  rw [step, h]

/-- Settles O2: a hall tick, by which of the two counters are full. -/
theorem emptyQueueTicks : Obligations.EmptyQueueTicks := by
  intro s hempty
  have hstep : step s = .next s.hallTick := by rw [step, hempty]
  have htick (hrun : s.engine.run = .running) : step s = .next (if 1000 ≤ s.second + 1 then
      (if s.engine.config.scanInterval ≤ s.scan.timer + 1 then s.timerExpires
        else { s with scan := { s.scan with timer := s.scan.timer + 1 } }).secondPasses
      else { (if s.engine.config.scanInterval ≤ s.scan.timer + 1 then s.timerExpires
        else { s with scan := { s.scan with timer := s.scan.timer + 1 } }) with second := s.second + 1 }) := by
    rw [hstep, State.hallTick, if_pos hrun]
    rfl
  refine ⟨fun hrun => ?_, fun hrun htimer hsecond => ?_, fun hrun htimer hsecond => ?_, fun hrun htimer hsecond => ?_⟩
  · rw [hstep, State.hallTick, if_neg hrun]
  · rw [htick hrun, if_neg (by omega), if_neg (by omega)]
  · rw [htick hrun, if_pos hsecond, if_neg (by omega)]
    exact if_pos hrun
  · exact ⟨s.timerExpires, if_pos hrun, by rw [htick hrun, if_neg (by omega), if_pos htimer]⟩

/-! ### Bytes in flight -/

theorem mem_cellsAt (bs : List Byte) : ∀ (a i : Nat) (hi : i < bs.length), (a + i, bs[i]) ∈ cellsAt a bs := by
  induction bs with
  | nil => intro a i hi; simp at hi
  | cons b bs ih =>
    intro a i hi
    cases i with
    | zero => exact List.mem_cons_self ..
    | succ i =>
      have htail := ih (a + 1) i (by simpa using hi)
      rw [show a + 1 + i = a + (i + 1) by omega] at htail
      exact List.mem_cons_of_mem _ htail

theorem leBytes_getElem : ∀ (n v i : Nat) (hi : i < (leBytes n v).length), (leBytes n v)[i] = BitVec.ofNat 8 (v / 256 ^ i)
  | 0, _, _, hi => by simp at hi
  | n + 1, v, 0, _ => by simp [leBytes]
  | n + 1, v, i + 1, hi => by
    simp only [leBytes, List.getElem_cons_succ]
    rw [leBytes_getElem n (v / 256) i (by simpa using hi), Nat.div_div_eq_div_mul, pow_succ']

/-- The bytes of a word, least significant first. -/
theorem leBytes_word (g : Word) (i : Fin 4) (hi : i.val < (leBytes 4 g.toNat).length) :
    (leBytes 4 g.toNat)[i.val] = g.extractLsb' (8 * i.val) 8 := by
  rw [leBytes_getElem]
  have hpow : (256 : Nat) ^ i.val = 2 ^ (8 * i.val) := by rw [show (256 : Nat) = 2 ^ 8 from rfl, ← pow_mul]
  apply BitVec.eq_of_toNat_eq
  simp [BitVec.extractLsb'_toNat, Nat.shiftRight_eq_div_pow, hpow]

theorem stopsWrites_of_mem {s t : State} {may : Host.Cell → Bool} {landed : List Host.Cell}
    (h : t.mem = s.memStopped may landed) : s.stopsWrites t may landed := by
  unfold State.stopsWrites
  rw [h]
  exact s.stopsWrites_memStopped may landed

/-- In FAULTED every write has already stopped. -/
theorem lands_faulted {s : State} (hf : s.engine.run = .faulted) (c : Host.Cell) : s.lands c = false := by
  simp [State.lands, State.inFlight, State.wordCells, hf]

theorem resetLands_faulted {s : State} (hf : s.engine.run = .faulted) (c : Host.Cell) : s.resetLands c = false := by
  simp [State.resetLands, lands_faulted hf, State.evenCells, hf]

theorem memStopped_none (s : State) {may : Host.Cell → Bool} (h : ∀ c, may c = false) (landed : List Host.Cell) :
    s.memStopped may landed = s.mem := by
  rw [State.memStopped, List.filter_eq_nil_iff.2 (by simp [h])]
  rfl

/-! ### Resets and CLEAR -/

/-- The bytes of a half's RETURNED word in flight are among those that a stop may leave bit by bit. -/
theorem returnWord_wordCells {s : State} (hf : s.engine.run ≠ .faulted) {l : LaneId} {v : InService}
    (hret : s.lanes[l].ret = .writing) (hservice : s.lanes[l].inService = some v) (i : Fin 4) :
    (s.lanes[l].halfAddr v.half + i.val,
      ([2, 1, BitVec.ofNat 8 v.count, BitVec.ofNat 8 (v.count / 256)] : List Byte)[i]) ∈ s.wordCells := by
  have hwrite : s.lanes[l].returnWrite = some (s.lanes[l].halfAddr v.half, returnedWord statusComplete v.count) := by
    rw [Lane.returnWrite, hret, hservice]
  have hcell := mem_cellsAt (returnedWord statusComplete v.count) (s.lanes[l].halfAddr v.half) i.val (by simp)
  simp only [State.wordCells, if_neg hf, List.mem_append, List.mem_flatMap]
  refine Or.inl (Or.inl (Or.inl (Or.inr ⟨s.lanes[l], by simp, Or.inr ?_⟩)))
  rw [hwrite]
  exact hcell

/-- The old and the new even generation of a live block whose contents are being written. -/
theorem evenGeneration_lands {s : State} (hf : s.engine.run ≠ .faulted) {k : CtxId} {bs : List Byte} {g : Word}
    (hphase : s.ctxs[k].slotPhase = some (.contents bs))
    (hg : g = s.ctxs[k].generation ∨ g = s.ctxs[k].generation + 2) (i : Fin 4) :
    s.resetLands (s.engine.config.slotBase + k.val * 1024 + 64 + i.val, g.extractLsb' (8 * i.val) 8) = true := by
  have hcell := mem_cellsAt (leBytes 4 g.toNat) (s.slotAddr k + 64) i.val (by simp)
  rw [leBytes_word] at hcell
  have heven : (s.slotAddr k + 64 + i.val, g.extractLsb' (8 * i.val) 8) ∈ s.evenCells := by
    simp only [State.evenCells, if_neg hf, List.mem_flatMap]
    refine ⟨k, List.mem_finRange k, ?_⟩
    rw [hphase]
    rcases hg with rfl | rfl
    · exact List.mem_append_left _ hcell
    · exact List.mem_append_right _ hcell
  rw [State.resetLands, Bool.or_eq_true]
  exact Or.inr (List.contains_iff_mem.2 heven)

/-- Settles O3. -/
theorem resetsClearTheChip : Obligations.ResetsClearTheChip := by
  refine ⟨by decide, by decide, by decide, fun dram s => ?_, fun landed s => ?_⟩
  · exact ⟨_, rfl, rfl, fun a ha => Mem.read_writeCells_out dram s.mem a ha⟩
  · refine ⟨_, rfl, rfl, stopsWrites_of_mem rfl, fun c hc => ?_, fun a new v hword hbits => ?_, fun hf => resetLands_faulted hf,
      fun hf => ⟨fun l v hret hservice => returnWord_wordCells hf hret hservice,
        fun k bs g hphase hg => evenGeneration_lands hf hphase hg⟩⟩
    · rw [State.resetLands, lands_of_inFlight hc, Bool.true_or]
    · rw [State.resetLands, lands_of_word hword ((mixes_iff _ _ _).2 hbits), Bool.true_or]

theorem clearPart_taken {s : State} (h : s.engine.run = .faulted ∨ s.engine.run = .stopped ∧ s.engine.start = .none)
    (landed : List Host.Cell) : s.clearPart landed = s.cleared (s.memStopped s.lands landed) :=
  if_pos (by simpa [State.clearTaken] using h)

theorem clearPart_refused {s : State}
    (h : s.engine.run = .running ∨ s.engine.run = .draining ∨ s.engine.run = .stopped ∧ s.engine.start ≠ .none)
    (landed : List Host.Cell) : s.clearPart landed = s.refuse := by
  refine if_neg ?_
  rcases h with h | h | ⟨h, hstart⟩
  · simp [State.clearTaken, h]
  · simp [State.clearTaken, h]
  · simp [State.clearTaken, h, hstart]

/-- Settles O4. -/
theorem clearTakenOrRefused : Obligations.ClearTakenOrRefused := by
  intro landed s
  refine ⟨fun h => ⟨s.cleared (s.memStopped s.lands landed), congrArg Host.Outcome.next (clearPart_taken h landed), rfl,
    stopsWrites_of_mem rfl, fun hf => ?_⟩, fun h => ?_⟩
  · exact memStopped_none s (lands_faulted hf) landed
  · exact congrArg Host.Outcome.next (clearPart_refused h landed)

/-! ### RUN -/

theorem drainWork_engine (s : State) : s.drainWork.engine = s.engine := congrArg Base.engine s.drainWork_base

theorem drainWork_control (s : State) : s.drainWork.control = s.control := congrArg Base.control s.drainWork_base

/-- A quiet event raises no message. -/
theorem State.Quiet.announce_eq {s t : State} (h : s.Quiet t) : announce s t = t := by
  unfold announce
  rw [h.messagesRaised, Nat.add_zero, max_eq_left (min_le_right _ _)]

theorem State.Quiet.trans {s t u : State} (h : s.Quiet t) (h' : t.Quiet u) : s.Quiet u where
  messages := h'.messages.trans h.messages
  enables := h'.enables.trans h.enables
  notices l :=
    have ⟨hhandback, hclose, halarm, hfault⟩ := h.notices l
    have ⟨hhandback', hclose', halarm', hfault'⟩ := h'.notices l
    ⟨hhandback ∘ hhandback', hclose ∘ hclose', halarm ∘ halarm', hfault ∘ hfault'⟩
  drained := h.drained ∘ h'.drained
  engine := h.engine ∘ h'.engine

/-- A CONTROL write of the CLEAR pulse and a RUN value. -/
def clearRunWord (v : Bool) : Word := if v = true then 0x00050005 else 0x00050004

theorem enablesPart_none (s : State) (value : BitVec 5) : s.enablesPart 0 value = s := by
  simp [State.enablesPart, Enables.written, underMask]

theorem clearRunWord_parts (v : Bool) :
    let w := clearRunWord v
    (w.getLsbD (16 + 2) && w.getLsbD 2) = true ∧ w.getLsbD (16 + 0) = true ∧ w.getLsbD 0 = v ∧
      (w.getLsbD (16 + 3) && w.getLsbD 3) = false ∧ (w.getLsbD (16 + 1) && w.getLsbD 1) = false ∧
      w.extractLsb' 20 5 = 0 ∧ w.getLsbD (16 + 9) = false := by
  cases v <;> decide

theorem controlWrite_clearRun (s : State) (v : Bool) : s.controlWrite (clearRunWord v) = (s.clearPart []).runPart v := by
  obtain ⟨hclear, hrun, hvalue, hflush, hscan, henables, hmode⟩ := clearRunWord_parts v
  simp only [State.controlWrite, hclear, hrun, hvalue, hflush, hscan, henables, hmode, enablesPart_none, underMask, if_true,
    Bool.false_eq_true, if_false]

theorem registerWrite_clearRun (s : State) (v : Bool) :
    exec (.registerWrite 0x00 4 (clearRunWord v)) s = .next ((s.clearPart []).runPart v) := by
  have hquiet : s.Quiet ((s.clearPart []).runPart v) := (s.clearPart_quiet []).trans (State.runPart_quiet _ v)
  show Host.Outcome.next (announce s (s.controlWrite (clearRunWord v))) = _
  rw [controlWrite_clearRun, hquiet.announce_eq]

section

variable {s : State}

theorem runPart_starting (hrun : s.engine.run = .stopped) (hstart : s.engine.start ≠ .none) (v : Bool) :
    s.runPart v = { s with control := { s.control with run := v }, engine := { s.engine with stopPending := !v } } := by
  cases v <;> simp [State.runPart, State.runOn, State.runOff, hrun, hstart]

theorem runPart_draining (hrun : s.engine.run = .draining) (v : Bool) :
    s.runPart v = { s with control := { s.control with run := v }, engine := { s.engine with warmPending := v } } := by
  cases v <;> simp [State.runPart, State.runOn, State.runOff, hrun]

theorem runPart_begins (hrun : s.engine.run = .running) :
    s.runPart false = State.beginDrain { s with control := { s.control with run := false } } := by
  simp [State.runPart, State.runOff, hrun]

theorem runPart_on_running (hrun : s.engine.run = .running) :
    s.runPart true = { s with control := { s.control with run := true } } := by
  simp [State.runPart, State.runOn, hrun]

theorem runPart_off_stopped (hrun : s.engine.run = .stopped) (hstart : s.engine.start = .none) :
    s.runPart false = { s with control := { s.control with run := false } } := by
  simp [State.runPart, State.runOff, hrun, hstart]

theorem runPart_cold (hrun : s.engine.run = .stopped) (hstart : s.engine.start = .none) (hconfigured : s.engine.configured = false) :
    s.runPart true = { s with
      control := { s.control with run := true }
      engine := { s.engine with start := .header, stopPending := false } } := by
  simp [State.runPart, State.runOn, hrun, hstart, hconfigured]

theorem runPart_warm (hrun : s.engine.run = .stopped) (hstart : s.engine.start = .none) (hconfigured : s.engine.configured = true) :
    s.runPart true = { s with control := { s.control with run := true }, engine := { s.engine with run := .running } } := by
  simp [State.runPart, State.runOn, hrun, hstart, hconfigured]

theorem beginDrain_engine (s : State) : s.beginDrain.engine = { s.engine with run := .draining, warmPending := false } :=
  drainWork_engine _

theorem beginDrain_control (s : State) : s.beginDrain.control = s.control := drainWork_control _

theorem beginDrain_flags (s : State) : s.beginDrain.flags = s.flags := congrArg Base.flags (State.drainWork_base _)

end

/-- Settles O5. -/
theorem runActsByState : Obligations.RunActsByState := by
  intro s
  refine ⟨fun hrun hstart hconfigured => congrArg Host.Outcome.next (runPart_cold hrun hstart hconfigured),
    fun hrun hstart hconfigured => congrArg Host.Outcome.next (runPart_warm hrun hstart hconfigured),
    fun hrun hstart => congrArg Host.Outcome.next (runPart_off_stopped hrun hstart),
    fun v hrun hstart => congrArg Host.Outcome.next (runPart_starting hrun hstart v),
    fun hrun => ⟨congrArg Host.Outcome.next (runPart_on_running hrun), s.runPart false, rfl, ?_, ?_⟩,
    fun v hrun => congrArg Host.Outcome.next (runPart_draining hrun v),
    fun v hrun => congrArg Host.Outcome.next (runPart_faulted hrun v), fun landed t u hrun ht hu => ?_, fun hrun => ?_,
    fun hrun => ?_, fun v => ⟨_, _, rfl, rfl, registerWrite_clearRun s v⟩⟩
  · rw [runPart_begins hrun, beginDrain_control]
  · rw [runPart_begins hrun, beginDrain_engine]
  · have hpart : s.runPart true = t := Host.Outcome.next.inj ht
    rw [runPart_faulted hrun] at hpart
    have hclear : t.clearPart landed = u := Host.Outcome.next.inj hu
    rw [clearPart_taken (by rw [← hpart]; exact .inl hrun)] at hclear
    rw [← hclear]
    exact ⟨rfl, rfl⟩
  · refine ⟨_, registerWrite_clearRun s true, ?_⟩
    rw [clearPart_taken (.inl hrun), runPart_cold rfl rfl rfl]
    exact ⟨rfl, rfl⟩
  · have hrefuse : s.clearPart [] = s.refuse := clearPart_refused (.inl hrun) []
    refine ⟨⟨_, registerWrite_clearRun s true, ?_⟩, ⟨_, registerWrite_clearRun s false, ?_⟩⟩
    · rw [hrefuse, runPart_on_running (s := s.refuse) hrun]
      exact ⟨rfl, rfl⟩
    · rw [hrefuse, runPart_begins (s := s.refuse) hrun, beginDrain_engine, beginDrain_flags]
      exact ⟨rfl, rfl⟩

/-! ### The drain -/

theorem drainWindows_frame (s : State) : s.drainWindows = { s with ctxs := s.drainWindows.ctxs } := by
  unfold State.drainWindows
  split <;> rfl

theorem drainTrends_frame (s : State) : s.drainTrends = { s with cache := s.drainTrends.cache } := by
  unfold State.drainTrends
  repeat' split
  all_goals rfl

/-- One context when a drain's window writebacks start. -/
theorem drainWindows_ctx (s : State) (k : CtxId) : s.drainWindows.ctxs[k] = { s.ctxs[k] with
    drainWrite := s.ctxs[k].drainWrite ||
      (s.merge.isNone && decide (s.ctxs[k].state = .opened) && s.ctxs[k].dirty && s.ctxs[k].winRow.isSome) } := by
  unfold State.drainWindows
  cases hmerge : s.merge with
  | some m => simp
  | none =>
    rw [if_pos (show (none : Option Merge).isNone = true from rfl)]
    show (mapAll s.ctxs _)[k.val] = _
    rw [mapAll_get]
    split
    · next hdue =>
      obtain ⟨hstate, hdirty, hrow⟩ := hdue
      simp [show s.ctxs[k.val].state = .opened from hstate, show s.ctxs[k.val].dirty = true from hdirty,
        show s.ctxs[k.val].winRow.isSome = true from hrow]
    · next hclean =>
      have hnot : (decide (s.ctxs[k].state = .opened) && s.ctxs[k].dirty && s.ctxs[k].winRow.isSome) = false := by
        rw [Bool.eq_false_iff]
        simpa [and_assoc] using hclean
      rw [Option.isNone_none, Bool.true_and, hnot, Bool.or_false]
      rfl

/-- One cache entry when a drain's trend writebacks start. -/
theorem drainTrends_entry (s : State) (e : EntryId) : s.drainTrends.cache[e] =
    if s.merge = none ∧ (∀ l, s.command.progress ≠ .retirePending l) ∧ s.closeQ = [] ∧ s.closeUnit = .idle ∧
        s.cache[e].dirty = true then s.cache[e].takeTrend (s.trendAddr s.cache[e].number)
    else s.cache[e] := by
  unfold State.drainTrends
  split
  · next l hl =>
    refine (if_neg ?_).symm
    rintro ⟨-, hprogress, -⟩
    exact hprogress l hl
  · next hprogress =>
    split
    · next hdue =>
      obtain ⟨hmerge, hqueue, hunit⟩ := hdue
      show (mapAll s.cache _)[e.val] = _
      rw [mapAll_get]
      refine if_congr ⟨fun hdirty => ⟨Option.isNone_iff_eq_none.1 hmerge, fun l hl => hprogress l hl, hqueue, hunit, hdirty⟩,
        fun ⟨_, _, _, _, hdirty⟩ => hdirty⟩ rfl rfl
    · next hbusy =>
      refine (if_neg ?_).symm
      rintro ⟨hmerge, -, hqueue, hunit, -⟩
      exact hbusy ⟨by rw [hmerge]; rfl, hqueue, hunit⟩

theorem takeTrend_busy {c : CacheEntry} (h : c.writing.isSome = true) (addr : Nat) :
    c.takeTrend addr = { c with deferred := true } := if_pos h

theorem takeTrend_free {c : CacheEntry} (h : c.writing = none) (addr : Nat) :
    c.takeTrend addr = { c with dirty := false, writing := some ⟨addr, c.trendE, c.trendCnt⟩ } :=
  if_neg (by rw [h]; exact nofun)

theorem beginDrain_eq (s : State) : s.beginDrain = { s with
    engine := { s.engine with run := .draining, warmPending := false }
    scan := { s.scan with rescan := false }
    ctxs := s.beginDrain.ctxs
    cache := s.beginDrain.cache } := by
  unfold State.beginDrain State.drainWork
  rw [if_pos rfl, drainTrends_frame, drainWindows_frame]

theorem beginDrain_ctx (s : State) (k : CtxId) : s.beginDrain.ctxs[k] = { s.ctxs[k] with
    idleDue := false
    drainWrite := s.ctxs[k].drainWrite ||
      (s.merge.isNone && decide (s.ctxs[k].state = .opened) && s.ctxs[k].dirty && s.ctxs[k].winRow.isSome) } := by
  unfold State.beginDrain State.drainWork
  rw [if_pos rfl, drainTrends_ctx, drainWindows_ctx]
  dsimp only
  rw [Fin.getElem_fin, mapAll_get]
  rfl

theorem beginDrain_entry (s : State) (e : EntryId) : s.beginDrain.cache[e] =
    if s.merge = none ∧ (∀ l, s.command.progress ≠ .retirePending l) ∧ s.closeQ = [] ∧ s.closeUnit = .idle ∧
        s.cache[e].dirty = true then s.cache[e].takeTrend (s.trendAddr s.cache[e].number)
    else s.cache[e] := by
  unfold State.beginDrain State.drainWork
  rw [if_pos rfl, drainTrends_entry, drainWindows_frame]
  rfl

theorem all_toList {α : Type} {n : Nat} (v : Vector α n) (p : α → Bool) (h : ∀ i : Fin n, p v[i] = true) :
    v.toList.all p = true := by
  rw [List.all_eq_true]
  intro x hx
  rw [Vector.mem_toList_iff] at hx
  obtain ⟨i, hi, rfl⟩ := Vector.mem_iff_getElem.1 hx
  exact h ⟨i, hi⟩

/-- With nothing in flight, nothing waiting and nothing dirty, the drain's work is done. -/
theorem drained_of {s : State} (hmerge : s.merge = none) (hqueue : s.closeQ = []) (hunit : s.closeUnit = .idle)
    (hpass : s.scan.pass = none) (hprogress : s.command.progress = .none)
    (hlanes : ∀ l : LaneId, s.lanes[l].look = none ∧ s.lanes[l].ret = .none)
    (hctxs : ∀ k : CtxId, s.ctxs[k].jobs = [] ∧ s.ctxs[k].slotPhase = none ∧ s.ctxs[k].drainWrite = false ∧
      (s.ctxs[k].state = .opened → s.ctxs[k].dirty = false))
    (hcache : ∀ e : EntryId, s.cache[e].writing = none ∧ s.cache[e].state ≠ .loading ∧ s.cache[e].dirty = false) :
    s.drained = true := by
  have hl := all_toList s.lanes (fun n => n.look.isNone && decide (n.ret = .none)) fun l => by
    obtain ⟨hlook, hret⟩ := hlanes l
    rw [hlook, hret]
    rfl
  have hc := all_toList s.ctxs (fun c => c.jobs.isEmpty && c.slotPhase.isNone && !c.drainWrite) fun k => by
    obtain ⟨hjobs, hphase, hwrite, -⟩ := hctxs k
    rw [hjobs, hphase, hwrite]
    rfl
  have he := all_toList s.cache (fun c => c.writing.isNone && decide (c.state ≠ .loading)) fun e => by
    obtain ⟨hwriting, hstate, -⟩ := hcache e
    rw [hwriting, decide_eq_true hstate]
    rfl
  have hd := all_toList s.ctxs (fun c => !(decide (c.state = .opened) && c.dirty)) fun k => by
    obtain ⟨-, -, -, hdirty⟩ := hctxs k
    by_cases hstate : s.ctxs[k].state = .opened
    · rw [hdirty hstate, Bool.and_false]
      rfl
    · rw [decide_eq_false hstate]
      rfl
  have ht := all_toList s.cache (fun c => !c.dirty) fun e => by
    obtain ⟨-, -, hdirty⟩ := hcache e
    rw [hdirty]
    rfl
  simp only [State.drained, State.quiet, hmerge, hqueue, hunit, hpass, hprogress, hl, hc, he, hd, ht]
  rfl

/-- Settles O6. -/
theorem drainBeginsAndEnds : Obligations.DrainBeginsAndEnds := by
  refine ⟨fun s hrun => ⟨s.runPart false, rfl, ?_, fun k => ?_, fun e => ?_⟩,
    fun s hrun hmerge hqueue hunit hpass hprogress hlanes hctxs hcache => ?_⟩
  · rw [runPart_begins hrun, beginDrain_eq]
  · rw [runPart_begins hrun, beginDrain_ctx]
  · rw [runPart_begins hrun, beginDrain_entry]
    split
    · exact ⟨fun h => takeTrend_busy h _, fun h => takeTrend_free h _⟩
    · rfl
  · have hdrained := drained_of hmerge hqueue hunit hpass hprogress hlanes hctxs hcache
    have hend : exec .drainEnd s = if s.engine.warmPending then
        .next { s with engine := { s.engine with run := .running, warmPending := false } }
      else .next (announce s { s with
        engine := { s.engine with run := .stopped }
        flags := { s.flags with drained := true } }) := if_pos ⟨hrun, hdrained⟩
    refine ⟨fun hwarm => ?_, fun hwarm => ?_⟩
    · rw [hend, if_pos hwarm]
    · exact ⟨_, by rw [hend, if_neg (by simp [hwarm])], rfl⟩

/-! ### The cold start -/

/-- The checks of Table 8-3, one by one. -/
theorem headerOk_iff (base : Nat) (h : Header) : headerOk base h = true ↔
    base % 64 = 0 ∧ base + 320 ≤ 2 ^ 32 ∧ h.format = 1 ∧ 1 ≤ h.rcount ∧ h.rcount ≤ 256 ∧ h.rtab % 4096 = 0 ∧
      h.rtab + h.rcount * 4096 ≤ 2 ^ 32 ∧ h.mapBase % 4096 = 0 ∧ h.mapBase + h.mapSize ≤ 2 ^ 32 ∧ h.stride ≠ 0 ∧
      h.stride % 4096 = 0 ∧ 24 * h.stride ≤ h.mapSize ∧ h.slotBase % 1024 = 0 ∧ h.slotBase + 24 * 1024 ≤ 2 ^ 32 ∧
      h.lotBase % 512 = 0 ∧ h.lotBase + 8 * 512 ≤ 2 ^ 32 := by
  have hmemory (a n : Nat) : inMemory a n = true ↔ a + n ≤ 2 ^ 32 := decide_eq_true_iff
  simp only [headerOk, hmemory, Bool.and_eq_true, decide_eq_true_eq, Nat.pos_iff_ne_zero, and_assoc]

/-- COMMON_HEADER_READ in a cold start. -/
theorem exec_commonHeaderRead {s : State} (hrun : s.engine.run = .stopped) (hstart : s.engine.start = .header) (bad : Bool) :
    exec (.commonHeaderRead bad) s =
      if bad = false ∧ headerOk s.common.toNat (headerOf (memSrc s.mem s.common.toNat)) = true then
        .next { s with engine := { s.engine with
          config := configOf (headerOf (memSrc s.mem s.common.toNat)), start := .descriptor 0 } }
      else .next (announce s s.commonFault) := if_pos ⟨hrun, hstart⟩

theorem coldLane_lanes (s : State) (l : LaneId) (bad : Bool) (d : Descriptor) : (s.coldLane l bad d).lanes =
    if bad = true then modAt s.lanes l fun n => { n with state := .faulted, cause := .memLane }
    else if d.enabled = false then modAt s.lanes l fun n => { n with state := .disabled }
    else if d.ok = true then modAt s.lanes l fun n => { n with
      state := .idle, expected := .a, inService := none, cause := .none, priority := d.priority
      capacity := d.capacity, halfA := d.halfA, halfB := d.halfB }
    else modAt s.lanes l fun n => { n with state := .faulted, cause := .badDescriptor } := by
  unfold State.coldLane
  cases bad <;> cases d.enabled <;> cases d.ok <;> rfl

theorem coldLane_notices (s : State) (l : LaneId) (bad : Bool) (d : Descriptor) : (s.coldLane l bad d).notices =
    if bad = true ∨ d.enabled = true ∧ d.ok = false then modAt s.notices l fun n => { n with fault := true }
    else s.notices := by
  unfold State.coldLane
  cases bad <;> cases d.enabled <;> cases d.ok <;> rfl

theorem coldLane_frame (s : State) (l : LaneId) (bad : Bool) (d : Descriptor) :
    s.coldLane l bad d = { s with lanes := (s.coldLane l bad d).lanes, notices := (s.coldLane l bad d).notices } := by
  unfold State.coldLane
  repeat' split
  all_goals rfl

theorem nextLane_lt {l : LaneId} (h : l.val < 15) : nextLane l = some ⟨l.val + 1, Nat.succ_lt_succ h⟩ :=
  dif_pos (Nat.succ_lt_succ h)

theorem nextLane_last {l : LaneId} (h : ¬ l.val < 15) : nextLane l = none := dif_neg (by omega)

/-- The event of a descriptor read of a cold start. -/
def State.descriptorTaken (s : State) (l : LaneId) (bad : Bool) : State :=
  let t := s.coldLane l bad (descriptorOf (memSrc s.mem (s.descriptorAddr l)))
  match nextLane l with
  | some l' => { t with engine := { t.engine with start := .descriptor l' } }
  | none => t.startDone

theorem exec_coldDescriptorRead {s : State} {l : LaneId} (hrun : s.engine.run = .stopped)
    (hstart : s.engine.start = .descriptor l) (bad : Bool) :
    exec (.coldDescriptorRead bad) s = .next (announce s (s.descriptorTaken l bad)) := by
  show execColdDescriptorRead bad s = _
  unfold execColdDescriptorRead State.descriptorTaken
  rw [hstart]
  dsimp only
  rw [if_pos hrun]
  cases nextLane l <;> rfl

theorem startDone_notices (s : State) : s.startDone.notices = s.notices := by
  unfold State.startDone
  dsimp only
  split
  · rw [beginDrain_eq]
  · rfl

theorem startDone_lanes (s : State) : s.startDone.lanes = s.lanes := by
  unfold State.startDone
  dsimp only
  split
  · rw [beginDrain_eq]
  · rfl

theorem descriptorTaken_lanes (s : State) (l : LaneId) (bad : Bool) : (s.descriptorTaken l bad).lanes =
    (s.coldLane l bad (descriptorOf (memSrc s.mem (s.descriptorAddr l)))).lanes := by
  unfold State.descriptorTaken
  dsimp only
  split
  · rfl
  · exact startDone_lanes _

theorem descriptorTaken_notices (s : State) (l : LaneId) (bad : Bool) : (s.descriptorTaken l bad).notices =
    (s.coldLane l bad (descriptorOf (memSrc s.mem (s.descriptorAddr l)))).notices := by
  unfold State.descriptorTaken
  dsimp only
  split
  · rfl
  · exact startDone_notices _

/-- Settles O7. -/
theorem coldStart : Obligations.ColdStart := by
  refine ⟨fun bad s hrun hstart => ⟨fun hok => ?_, fun hbad => ?_⟩, fun bad l s hrun hstart => ?_⟩
  · obtain ⟨hread, hchecks⟩ := hok
    rw [exec_commonHeaderRead hrun hstart, if_pos ⟨hread, (headerOk_iff _ _).2 hchecks⟩]
    rfl
  · rw [exec_commonHeaderRead hrun hstart, if_neg fun ⟨hread, hchecks⟩ => hbad ⟨hread, (headerOk_iff _ _).1 hchecks⟩]
    exact ⟨_, rfl, rfl⟩
  · refine ⟨_, exec_coldDescriptorRead hrun hstart bad, ?_, ?_, fun h => ?_, fun h hstop => ?_, fun h hstop => ?_⟩
    · exact (descriptorTaken_lanes s l bad).trans (coldLane_lanes s l bad _)
    · exact (descriptorTaken_notices s l bad).trans (coldLane_notices s l bad _)
    · rw [announce_eq, State.descriptorTaken, nextLane_lt h]
      dsimp only
      rw [coldLane_frame]
    · rw [announce_eq, State.descriptorTaken, nextLane_last (by omega), State.startDone]
      dsimp only
      rw [coldLane_frame]
      dsimp only
      rw [hstop]
      rfl
    · show (s.descriptorTaken l bad).engine = _
      rw [State.descriptorTaken, nextLane_last (by omega), State.startDone]
      dsimp only
      rw [coldLane_engine, if_pos hstop, beginDrain_engine]

end Sys2Proof.Machine
end

section
/-!
PROOFS. The Lane Scanner, looks and slot reads (7.3, R121). They settle O9 and O22 to O25.
-/

namespace Sys2Proof.Machine

/-! ### The order of a pass -/

theorem passOrder_getElem (q : PassPos) (h : q.rank < passOrder.length) : passOrder[q.rank] = q := by
  cases q with
  | lane l => revert l; decide
  | ctx k => revert k; decide
  | lot i => revert i; decide

theorem PassPos.rank_lt (q : PassPos) : q.rank < passOrder.length := by
  show q.rank < 48
  cases q <;> simp only [PassPos.rank] <;> omega

theorem passOrder_rank_fin : ∀ i : Fin passOrder.length, passOrder[i].rank = i.val := by decide

theorem passOrder_rank (j : Nat) (hj : j < passOrder.length) : passOrder[j].rank = j :=
  passOrder_rank_fin ⟨j, hj⟩

/-- The first position from rank `n` on that meets `p`. -/
theorem find_passOrder {p : PassPos → Bool} {n : Nat} {q : PassPos} (hn : n ≤ q.rank) (hq : p q = true)
    (hfirst : ∀ q', n ≤ q'.rank → q'.rank < q.rank → ¬ p q' = true) : (passOrder.drop n).find? p = some q := by
  have hlt := q.rank_lt
  rw [List.find?_eq_some_iff_getElem]
  refine ⟨hq, q.rank - n, by rw [List.length_drop]; omega, ?_, fun j hj => ?_⟩
  · rw [List.getElem_drop]
    simp only [Nat.add_sub_cancel' hn]
    exact passOrder_getElem q hlt
  · rw [List.getElem_drop, Bool.not_eq_true', Bool.eq_false_iff]
    have hrank := passOrder_rank (n + j) (by omega)
    exact hfirst _ (by omega) (by omega)

/-- No position from rank `n` on meets `p`. -/
theorem find_passOrder_none {p : PassPos → Bool} {n : Nat} (hnone : ∀ q', n ≤ q'.rank → ¬ p q' = true) :
    (passOrder.drop n).find? p = none := by
  rw [List.find?_eq_none]
  intro q hq
  obtain ⟨j, hj, rfl⟩ := List.getElem_of_mem hq
  rw [List.getElem_drop]
  rw [List.length_drop] at hj
  exact hnone _ (by rw [passOrder_rank]; omega)

section

variable (s : State)

theorem passWants_lane (l : LaneId) : s.passWants (.lane l) = true ↔ s.lanes[l].state = .idle ∧ s.lanes[l].inService = none ∧
    s.lanes[l].look = none ∧ s.command.progress ≠ .retirePending l := by
  simp only [State.passWants, State.retirePending, Bool.and_eq_true, decide_eq_true_eq, Option.isNone_iff_eq_none,
    Bool.not_eq_true', decide_eq_false_iff_not, and_assoc, ne_eq]

theorem passWants_ctx (k : CtxId) : s.passWants (.ctx k) = true ↔ s.ctxs[k].state = .closed := decide_eq_true_iff

theorem passWants_lot (i : LotId) : s.passWants (.lot i) = true ↔ s.lots[i].state = .posted := decide_eq_true_iff

theorem issueAt_eq (p : PassPos) : s.issueAt p = { s with
    scan := { s.scan with pass := some p }
    lanes := match p with
      | .lane l => modAt s.lanes l fun n => { n with look := some ⟨n.expected, n.halfAddr n.expected, true, false, .reading⟩ }
      | _ => s.lanes } := by
  cases p <;> rfl

theorem passOver_found {ps : List PassPos} {p : PassPos} (h : ps.find? s.passWants = some p) : s.passOver ps = s.issueAt p := by
  rw [State.passOver, h]

theorem passOver_done {ps : List PassPos} (h : ps.find? s.passWants = none) :
    s.passOver ps = { s with scan := { s.scan with pass := none } } := by
  rw [State.passOver, h]

theorem startPass_found {p : PassPos} (h : s.passWants p = true) (hfirst : ∀ q, q.rank < p.rank → ¬ s.passWants q = true) :
    s.startPass = s.issueAt p :=
  passOver_found s (find_passOrder (n := 0) (Nat.zero_le _) h fun q _ hq => hfirst q hq)

theorem startPass_done (h : ∀ q, ¬ s.passWants q = true) : s.startPass = { s with scan := { s.scan with pass := none } } :=
  passOver_done s (find_passOrder_none (n := 0) fun q _ => h q)

/-- The scan timer plays no part in where a pass starts. -/
theorem startPass_timer (n : Nat) : State.startPass { s with scan := { s.scan with timer := n } } =
    { s.startPass with scan := { s.startPass.scan with timer := n } } := by
  show (match passOrder.find? s.passWants with
    | some p => State.issueAt { s with scan := { s.scan with timer := n } } p
    | none => _ : State) = _
  unfold State.startPass State.passOver
  cases passOrder.find? s.passWants with
  | none => rfl
  | some p => cases p <;> rfl

end

/-- Settles O9. -/
theorem scanPassStarts : Obligations.ScanPassStarts := by
  intro s wants
  have hlane (l : LaneId) : s.passWants (.lane l) = true ↔ wants l := passWants_lane s l
  refine ⟨fun hrun => ⟨?_, if_neg hrun⟩, fun hrun hpass => ⟨?_, ?_⟩, fun hrun hpass => ⟨s.startPass, ?_, ?_, ?_, ?_, ?_, ?_⟩⟩
  · exact congrArg Host.Outcome.next (if_neg hrun)
  · show Host.Outcome.next s.scanNowPart = _
    rw [State.scanNowPart, if_pos hrun, if_pos (Option.isSome_iff_ne_none.2 hpass)]
  · show execScanTimerExpiry s = _
    rw [execScanTimerExpiry, if_pos hrun, State.timerExpires, if_pos (Option.isSome_iff_ne_none.2 hpass)]
  · show Host.Outcome.next s.scanNowPart = _
    rw [State.scanNowPart, if_pos hrun, if_neg (by simp [hpass])]
  · show execScanTimerExpiry s = _
    rw [execScanTimerExpiry, if_pos hrun, State.timerExpires, if_neg (by simp [hpass]), startPass_timer]
  · intro l hl hfirst
    rw [startPass_found s ((hlane l).2 hl) fun q hq => ?_, issueAt_eq]
    cases q with
    | lane l' => exact mt (hlane l').1 (hfirst l' hq)
    | ctx k => exact absurd hq (by simp only [PassPos.rank]; omega)
    | lot i => exact absurd hq (by simp only [PassPos.rank]; omega)
  · intro k hlanes hk hfirst
    rw [startPass_found s ((passWants_ctx s k).2 hk) fun q hq => ?_, issueAt_eq]
    cases q with
    | lane l' => exact mt (hlane l').1 (hlanes l')
    | ctx k' => exact mt (passWants_ctx s k').1 (hfirst k' (Nat.lt_of_add_lt_add_left hq))
    | lot i => exact absurd hq (by simp only [PassPos.rank]; omega)
  · intro i hlanes hctxs hi hfirst
    rw [startPass_found s ((passWants_lot s i).2 hi) fun q hq => ?_, issueAt_eq]
    cases q with
    | lane l' => exact mt (hlane l').1 (hlanes l')
    | ctx k' => exact mt (passWants_ctx s k').1 (hctxs k')
    | lot i' => exact mt (passWants_lot s i').1 (hfirst i' (Nat.lt_of_add_lt_add_left hq))
  · intro hlanes hctxs hlots
    rw [startPass_done s fun q => ?_, ← hpass]
    cases q with
    | lane l' => exact mt (hlane l').1 (hlanes l')
    | ctx k' => exact mt (passWants_ctx s k').1 (hctxs k')
    | lot i' => exact mt (passWants_lot s i').1 (hlots i')

/-! ### A pass goes on -/

section

variable {s : State}

theorem passNext_stops (hrun : s.engine.run ≠ .running) (p : PassPos) :
    s.passNext p = { s with scan := { s.scan with pass := none } } := if_neg hrun

theorem passNext_running (hrun : s.engine.run = .running) (p : PassPos) : s.passNext p =
    if (s.passOver (passOrder.drop (p.rank + 1))).scan.pass = none ∧
        (s.passOver (passOrder.drop (p.rank + 1))).scan.rescan = true then
      State.startPass { s.passOver (passOrder.drop (p.rank + 1)) with
        scan := { (s.passOver (passOrder.drop (p.rank + 1))).scan with rescan := false } }
    else s.passOver (passOrder.drop (p.rank + 1)) := if_pos hrun

theorem issueAt_pass (p : PassPos) : (s.issueAt p).scan.pass = some p := by rw [issueAt_eq]

end

/-- Settles O22. -/
theorem scanPassGoesOn : Obligations.ScanPassGoesOn := by
  intro p s wants
  have hwants (q : PassPos) : s.passWants q = true ↔ wants q := by
    cases q with
    | lane l => exact passWants_lane s l
    | ctx k => exact passWants_ctx s k
    | lot i => exact passWants_lot s i
  have hdone (hnone : ∀ q, p.rank < q.rank → ¬ wants q) : s.passOver (passOrder.drop (p.rank + 1)) =
      { s with scan := { s.scan with pass := none } } :=
    passOver_done s (find_passOrder_none fun q hq => mt (hwants q).1 (hnone q hq))
  refine ⟨fun hrun => passNext_stops hrun p, fun q hrun hpq hq hfirst => ?_, fun hrun hnone hrescan => ?_,
    fun hrun hnone hrescan => ?_⟩
  · have hfound := passOver_found s (find_passOrder hpq ((hwants q).2 hq) fun q' hle hlt =>
      mt (hwants q').1 (hfirst q' hle hlt))
    have hpass : ¬ ((s.issueAt q).scan.pass = none ∧ (s.issueAt q).scan.rescan = true) := by
      rw [issueAt_pass]
      exact nofun
    have hnext : s.passNext p = s.issueAt q := by rw [passNext_running hrun, hfound, if_neg hpass]
    refine hnext.trans ?_
    cases q <;> rfl
  · rw [passNext_running hrun, hdone hnone, if_neg]
    rintro ⟨-, hset⟩
    exact absurd (hrescan.symm.trans hset) nofun
  · rw [passNext_running hrun, hdone hnone, if_pos ⟨rfl, hrescan⟩]
    show Host.Outcome.next (State.scanNowPart _) = _
    rw [State.scanNowPart, if_pos hrun]
    rfl

/-! ### Looks -/

theorem toNat_eq_iff (b : Byte) (n : Nat) (hn : n < 256) : b.toNat = n ↔ b = BitVec.ofNat 8 n := by
  rw [← BitVec.toNat_inj, BitVec.toNat_ofNat, Nat.mod_eq_of_lt hn]

section

variable {s : State}

/-- A look in flight whose read has returned. -/
theorem exec_look (hworking : s.engine.run = .running ∨ s.engine.run = .draining) {l : LaneId} {k : Look}
    (hlook : s.lanes[l].look = some k) (hphase : k.phase = .reading) (bad : Bool) :
    exec (.look l bad) s = .next (announce s (s.lookAction l k bad)) := by
  show execLook l bad s = _
  rw [execLook, hlook]
  exact if_pos ⟨working_of hworking, hphase⟩

/-- What the lane of a look that ends holds, and a fault that its read finds. -/
theorem lookFault_eq (l : LaneId) (c : LaneFault) : (s.clearLook l).laneFault l c = { s with
    lanes := modAt s.lanes l fun n => { n with look := none, state := .faulted, cause := c }
    notices := modAt s.notices l fun n => { n with fault := true } } := by
  unfold State.clearLook State.laneFault State.setFault State.modLane
  rw [modAt_modAt]

/-- A look's RETURNED write that has been stored. -/
theorem exec_lookReturnWritten (hworking : s.engine.run = .running ∨ s.engine.run = .draining) {l : LaneId} {k : Look}
    (hlook : s.lanes[l].look = some k) (hphase : k.phase ≠ .reading) : exec (.lookReturnWritten l) s =
      .next (announce s (((s.store k.addr [2, if k.phase = .answerEmpty then 2 else 4, 0, 0]).lookAnswered l k).lookDone l
        k.fromPass)) := by
  have hwrite : k.write = some (k.addr, [2, if k.phase = .answerEmpty then 2 else 4, 0, 0]) := by
    unfold Look.write
    cases hk : k.phase with
    | reading => exact absurd hk hphase
    | answerEmpty => rfl
    | answerBadCount => rfl
  show execLookReturnWritten l s = _
  rw [execLookReturnWritten, hlook]
  dsimp only
  rw [if_pos ⟨working_of hworking, hphase⟩, hwrite]
  rfl

theorem chainLook_eq (l : LaneId) : s.chainLook l = { s with lanes := modAt s.lanes l fun n => { n with
    look := if s.engine.run = .running ∧ s.command.progress ≠ .retirePending l ∧ n.look = none then
      some ⟨n.expected, n.halfAddr n.expected, false, false, .reading⟩ else n.look } } := by
  have hretire : s.retirePending l = false ↔ s.command.progress ≠ .retirePending l := decide_eq_false_iff_not
  unfold State.chainLook State.issueLook State.modLane
  by_cases hissue : s.engine.run = .running ∧ s.retirePending l = false ∧ s.lanes[l].look = none
  · rw [if_pos hissue]
    congr 1
    refine modAt_congr _ _ _ _ ?_
    rw [hretire] at hissue
    rw [if_pos hissue]
  · rw [if_neg hissue]
    rw [hretire] at hissue
    conv_lhs => rw [show s = { s with lanes := modAt s.lanes l fun n => n } by rw [modAt_id]]
    congr 1
    refine modAt_congr _ _ _ _ ?_
    rw [if_neg hissue]

/-- The half of an answered EMPTY look is handed back, and the other half is looked at. -/
theorem emptyAnswered_eq (s : State) (l : LaneId) :
    (((s.clearLook l).modLane l fun n => { n with expected := n.expected.other }).setHandback l).chainLook l = { s with
      notices := modAt s.notices l fun n => { n with handback := true }
      lanes := modAt s.lanes l fun n => { n with
        expected := n.expected.other
        look := if s.engine.run = .running ∧ s.command.progress ≠ .retirePending l then
           some ⟨n.expected.other, n.halfAddr n.expected.other, false, false, .reading⟩ else none } } := by
  rw [chainLook_eq]
  unfold State.setHandback State.clearLook State.modLane
  dsimp only
  rw [modAt_modAt, modAt_modAt]
  congr 2
  funext n
  simp only [and_true]
  congr 3

/-- A state that keeps the memory of `s` after a store holds that store. -/
theorem stores_of {s t : State} {a : Nat} {bs : List Byte} (hmem : t.mem = (s.store a bs).mem)
    (hpast : t.past = (s.store a bs).past) : s.stores t a bs := by
  unfold State.stores
  rw [hmem, hpast]
  exact s.stores_store a bs

/-- What a store leaves, its memory named by a state that keeps it. -/
theorem stored_eq {s t : State} {a : Nat} {bs : List Byte} (hmem : t.mem = (s.store a bs).mem)
    (hpast : t.past = (s.store a bs).past) (f : State → State) :
    f (s.store a bs) = f { s with mem := t.mem, past := t.past } := by
  rw [hmem, hpast]
  rfl

end

/-- Settles O23. -/
theorem lookActsAndAnswers : Obligations.LookActsAndAnswers := by
  refine ⟨fun l bad k s hworking hlook hphase => ?_, fun l k s hworking hlook hphase => ?_⟩
  · intro code count passed quiet fault
    have hcode : get8 (memSrc s.mem k.addr) 0 = code := rfl
    have hcount : get16 (memSrc s.mem k.addr) 2 = count := rfl
    have haction (hvoid : k.void = false) (hbad : bad = false) : s.lookAction l k bad =
        if code = 0 ∨ code = 2 then (s.clearLook l).lookDone l k.fromPass
        else if code = 1 then
          if count = 0 then s.answerLook l k .answerEmpty
          else if count ≤ s.lanes[l].capacity then
            ((s.clearLook l).modLane l fun n =>
              { n with state := .ready, inService := some ⟨k.half, 0, count⟩ }).lookDone l k.fromPass
          else s.answerLook l k .answerBadCount
        else ((s.clearLook l).laneFault l .badHandover).lookDone l k.fromPass := by
      rw [State.lookAction, if_neg (by simp [hvoid]), if_neg (by simp [hbad])]
      rfl
    refine ⟨_, exec_look hworking hlook hphase bad, fun hvoid => ?_, fun hvoid hbad => ?_, fun hvoid hbad h => ?_,
      fun hvoid hbad h => ?_, fun hvoid hbad h hzero => ?_, fun hvoid hbad h hlarge => ?_, fun hvoid hbad h hpos hle => ?_⟩
    · rw [State.lookAction, if_pos hvoid]
      rfl
    · rw [State.lookAction, if_neg (by simp [hvoid]), if_pos hbad, lookFault_eq]
      rfl
    · rw [haction hvoid hbad, if_pos h]
      rfl
    · rw [haction hvoid hbad, if_neg (by omega), if_neg (by omega), lookFault_eq]
      rfl
    · rw [haction hvoid hbad, if_neg (by omega), if_pos h, if_pos hzero]
      exact announce_quiet s _ rfl rfl rfl rfl
    · rw [haction hvoid hbad, if_neg (by omega), if_pos h, if_neg (by omega), if_neg (by omega)]
      exact announce_quiet s _ rfl rfl rfl rfl
    · rw [haction hvoid hbad, if_neg (by omega), if_pos h, if_neg (by omega), if_pos hle]
      unfold State.clearLook State.modLane
      rw [modAt_modAt]
      rfl
  · have hbase := (State.lookDone_base ((s.store k.addr [2, if k.phase = .answerEmpty then 2 else 4, 0, 0]).lookAnswered l k) l
      k.fromPass).trans (State.lookAnswered_base _ l k)
    have hmem := congrArg Base.mem hbase
    have hpast := congrArg Base.past hbase
    refine ⟨_, (s.store k.addr [2, if k.phase = .answerEmpty then 2 else 4, 0, 0]).lookAnswered l k,
      exec_lookReturnWritten hworking hlook hphase, rfl, ?_, fun hvoid => ?_, fun hvoid hempty => ?_, fun hvoid hcount => ?_⟩
    · exact stores_of hmem hpast
    · refine .trans ?_ (stored_eq hmem hpast fun u => { u with lanes := modAt s.lanes l fun n => { n with look := none } })
      rw [State.lookAnswered, if_pos hvoid]
      rfl
    · refine .trans ?_ (stored_eq hmem hpast fun u => { u with
        notices := modAt s.notices l fun n => { n with handback := true }
        lanes := modAt s.lanes l fun n => { n with
          expected := n.expected.other
          look := if s.engine.run = .running ∧ s.command.progress ≠ .retirePending l then
             some ⟨n.expected.other, n.halfAddr n.expected.other, false, false, .reading⟩ else none } })
      rw [State.lookAnswered, if_neg (by simp [hvoid]), hempty]
      exact emptyAnswered_eq (s.store _ _) l
    · refine .trans ?_ (stored_eq hmem hpast fun u => { u with
        notices := modAt s.notices l fun n => { n with fault := true }
        lanes := modAt s.lanes l fun n => { n with look := none, state := .faulted, cause := .badCount } })
      rw [State.lookAnswered, if_neg (by simp [hvoid]), hcount]
      exact lookFault_eq l .badCount

/-! ### Slot reads -/

/-- The host has written COLLECTED where a slot's hand-over word lies. -/
theorem collected_iff (m : Mem) (a : Nat) : get8 (memSrc m a) 0 = codeCollected ↔ Mem.read m a = 3 :=
  toNat_eq_iff (Mem.read m a) 3 (by omega)

theorem wakeContext_lane (s : State) (l : LaneId) : s.wakeContext.lanes[l] =
    if s.lanes[l].state = .waitContext then { s.lanes[l] with state := .ready } else s.lanes[l] := by
  show (mapAll s.lanes _)[l.val] = _
  rw [mapAll_get]
  rfl

theorem wakeContext_frame (s : State) : s.wakeContext = { s with lanes := s.wakeContext.lanes } := by rw [State.wakeContext]

/-- Settles O24. -/
theorem slotReadFrees : Obligations.SlotReadFrees := by
  intro s hworking
  refine ⟨fun k hpass => ?_, fun i hpass => ?_⟩
  · intro collected
    have hread : exec (.summarySlotRead k .returned) s =
        if get8 (memSrc s.mem (s.slotAddr k)) 0 = codeCollected then
          .next (((s.modCtx k fun c => { c with state := .free }).wakeContext).passNext (.ctx k))
        else .next (s.passNext (.ctx k)) := if_pos ⟨working_of hworking, hpass⟩
    refine ⟨fun hnot => ?_, fun hcollected => ⟨(s.modCtx k fun c => { c with state := .free }).wakeContext, ?_,
      wakeContext_frame (s.modCtx k fun c => { c with state := .free }), fun l => wakeContext_lane _ l⟩⟩
    · rw [hread, if_neg (mt (collected_iff s.mem (s.slotAddr k)).1 hnot)]
    · rw [hread, if_pos ((collected_iff s.mem (s.slotAddr k)).2 hcollected)]
  · intro collected
    have hread : exec (.lotSlotRead i .returned) s =
        if get8 (memSrc s.mem (s.lotAddr i)) 0 = codeCollected then
          .next ((s.modLot i fun t => { t with state := .free }).passNext (.lot i))
        else .next (s.passNext (.lot i)) := if_pos ⟨working_of hworking, hpass⟩
    refine ⟨fun hnot => ?_, fun hcollected => ?_⟩
    · rw [hread, if_neg (mt (collected_iff s.mem (s.lotAddr i)).1 hnot)]
    · rw [hread, if_pos ((collected_iff s.mem (s.lotAddr i)).2 hcollected)]
      rfl

/-! ### Uncorrectable reads -/

/-- Settles O25: each of the four reads ends in the engine fault of its code. -/
theorem uncorrectableReadFaults : Obligations.UncorrectableReadFaults := by
  intro landed s c code hworking hread
  have hw := working_of hworking
  have hexec : exec c s = .next (announce s (s.engineFault code landed)) := by
    rcases hread with ⟨k, rfl, hpass, rfl⟩ | ⟨i, rfl, hpass, rfl⟩ | ⟨m, y, k, rfl, hmerge, hphase, hctx, rfl⟩ |
      ⟨e, early, since, rfl, hload, rfl⟩
    · exact if_pos ⟨hw, hpass⟩
    · exact if_pos ⟨hw, hpass⟩
    · show execRowFetchDone (.uncorrectable landed) s = _
      rw [execRowFetchDone, hmerge]
      dsimp only
      rw [hphase, hctx]
      exact if_pos hw
    · show execRecipeLoadDone e early (.uncorrectable landed) s = _
      rw [execRecipeLoadDone, hload]
      exact if_pos hw
  refine ⟨_, hexec, rfl, stopsWrites_of_mem rfl, fun m code hmerge hphase => undisposed_of hmerge hphase,
    fun h => undisposed_other h, fun m k u hundo => ?_, fun hnone => unfinished_none hnone⟩
  exact unfinished_of hundo

end Sys2Proof.Machine
end

section
/-!
PROOFS. The Recipe Cache (chapter 5): flushes, lookups and victims, loads, trend writebacks. They settle O10, O39, O43 and O45.
-/

namespace Sys2Proof.Machine

/-! ### The lanes that wake -/

theorem wakeRecipe_lane (s : State) (l : LaneId) : s.wakeRecipe.lanes[l] =
    if s.lanes[l].state = .waitRecipe then { s.lanes[l] with state := .ready } else s.lanes[l] := by
  show (mapAll s.lanes _)[l.val] = _
  rw [mapAll_get]
  rfl

theorem wakeRecipeIf_lane (s : State) (b : Bool) (l : LaneId) : (s.wakeRecipeIf b).lanes[l] =
    if s.lanes[l].state = .waitRecipe ∧ b = true then { s.lanes[l] with state := .ready } else s.lanes[l] := by
  cases b
  · rw [if_neg (by simp)]
    rfl
  · rw [show s.wakeRecipeIf true = s.wakeRecipe from rfl, wakeRecipe_lane]
    simp only [and_true]

theorem wakeRecipeIf_frame (s : State) (b : Bool) : s.wakeRecipeIf b = { s with lanes := (s.wakeRecipeIf b).lanes } := by
  cases b
  · rfl
  · show s.wakeRecipe = { s with lanes := s.wakeRecipe.lanes }
    rw [State.wakeRecipe]

theorem wakeLoading_lane (s : State) (e : EntryId) (l : LaneId) : (s.wakeLoading e).lanes[l] =
    if s.cache[e].waiters[l] = true ∧ s.lanes[l].state = .loading then { s.lanes[l] with state := .ready }
    else s.lanes[l] := by
  show (mapAll s.lanes _)[l.val] = _
  rw [mapAll_get]
  rfl

theorem wakeLoading_frame (s : State) (e : EntryId) : s.wakeLoading e = { s with lanes := (s.wakeLoading e).lanes } := by
  rw [State.wakeLoading]

theorem any_toList {α : Type} {n : Nat} (v : Vector α n) (p : α → Bool) : v.toList.any p = true ↔ ∃ i : Fin n, p v[i] = true := by
  rw [List.any_eq_true]
  constructor
  · rintro ⟨x, hx, hp⟩
    rw [Vector.mem_toList_iff] at hx
    obtain ⟨i, hi, rfl⟩ := Vector.mem_iff_getElem.1 hx
    exact ⟨⟨i, hi⟩, hp⟩
  · rintro ⟨i, hp⟩
    exact ⟨v[i], by simp, hp⟩

/-! ### Flush -/

section

variable (s : State)

theorem flush_frame : s.flush = { s with cache := s.flush.cache, lanes := s.flush.lanes } := by
  unfold State.flush
  rw [wakeRecipeIf_frame]

theorem flush_entry (e : EntryId) : s.flush.cache[e] = s.cache[e].flushed (s.trendAddr s.cache[e].number) := by
  unfold State.flush
  rw [wakeRecipeIf_frame]
  show (mapAll s.cache _)[e.val] = _
  rw [mapAll_get]
  rfl

theorem flush_lane (l : LaneId) : s.flush.lanes[l] =
    if s.lanes[l].state = .waitRecipe ∧
        ∃ e : EntryId, s.cache[e].state = .valid ∧ s.cache[e].dirty = false ∧ s.cache[e].pins = 0 then
      { s.lanes[l] with state := .ready }
    else s.lanes[l] := by
  have hwakes : s.cache.toList.any CacheEntry.flushInvalidates = true ↔
      ∃ e : EntryId, s.cache[e].state = .valid ∧ s.cache[e].dirty = false ∧ s.cache[e].pins = 0 := by
    rw [any_toList]
    simp only [CacheEntry.flushInvalidates, Bool.and_eq_true, decide_eq_true_eq, Bool.not_eq_true', and_assoc]
  unfold State.flush
  rw [wakeRecipeIf_lane]
  simp only [hwakes]

theorem flushed_valid {c : CacheEntry} (h : c.state = .valid) (addr : Nat) : c.flushed addr =
    if c.dirty then { c with stale := true }.takeTrend addr
    else if c.pins = 0 then c.invalidate
    else { c with stale := true } := by
  obtain ⟨state⟩ := c
  cases h
  rfl

theorem flushed_loading {c : CacheEntry} (h : c.state = .loading) (addr : Nat) : c.flushed addr = { c with stale := true } := by
  obtain ⟨state⟩ := c
  cases h
  rfl

theorem flushed_invalid {c : CacheEntry} (h : c.state = .invalid) (addr : Nat) : c.flushed addr = { c with mark := none } := by
  obtain ⟨state⟩ := c
  cases h
  rfl

end

/-- Settles O10. -/
theorem flushMarksEveryEntry : Obligations.FlushMarksEveryEntry := by
  intro s
  refine ⟨fun h => ?_, fun h => ⟨s.flush, ?_, flush_frame s, fun e hstate hdirty hpins => ?_, fun e hstate hdirty hpins => ?_,
    fun e hstate hdirty hwriting => ?_, fun e hstate hdirty hwriting => ?_, fun e hstate => ?_, fun e hstate => ?_,
    flush_lane s⟩⟩
  · exact congrArg Host.Outcome.next (if_neg (by rcases h with h | h <;> simp [h]))
  · exact congrArg Host.Outcome.next (if_pos (by rcases h with h | h <;> simp [h]))
  · rw [flush_entry, flushed_valid hstate, if_neg (Bool.eq_false_iff.1 hdirty), if_pos hpins]
    rfl
  · rw [flush_entry, flushed_valid hstate, if_neg (Bool.eq_false_iff.1 hdirty), if_neg (by omega)]
  · rw [flush_entry, flushed_valid hstate, if_pos hdirty]
    exact takeTrend_free (c := { s.cache[e] with stale := true }) hwriting _
  · rw [flush_entry, flushed_valid hstate, if_pos hdirty]
    exact takeTrend_busy (c := { s.cache[e] with stale := true }) (Option.isSome_iff_ne_none.2 hwriting) _
  · rw [flush_entry, flushed_loading hstate]
  · rw [flush_entry, flushed_invalid hstate]

/-! ### Lookup -/

section

variable (s : State)

theorem entryWith_some {n : Nat} {p : CacheEntry → Bool} {e : EntryId} (h : s.entryWith n p = some e) :
    s.cache[e].number = n ∧ p s.cache[e] = true := by
  have hfound := List.find?_some h
  rwa [Bool.and_eq_true, decide_eq_true_eq] at hfound

theorem entryWith_isSome {n : Nat} {p : CacheEntry → Bool} :
    (∃ e, s.entryWith n p = some e) ↔ ∃ e : EntryId, s.cache[e].number = n ∧ p s.cache[e] = true := by
  rw [← Option.isSome_iff_exists, State.entryWith, List.find?_isSome]
  simp only [List.mem_finRange, true_and, Bool.and_eq_true, decide_eq_true_eq]

theorem candidate_iff (c : CacheEntry) : c.candidate = true ↔
    c.state ≠ .loading ∧ c.pins = 0 ∧ (∀ i : LaneId, c.waiters[i] = false) ∧ c.writing = none := by
  simp only [CacheEntry.candidate, Bool.and_eq_true, decide_eq_true_eq, waitersEmpty_iff, Option.isNone_iff_eq_none, and_assoc,
    ne_eq]

/-- The last entry of a list that meets `p`. -/
theorem find_reverse {α : Type} {p : α → Bool} {xs older newer : List α} {x : α} (hxs : xs = newer ++ x :: older)
    (hx : p x = true) (hlast : ∀ y ∈ older, ¬ p y = true) : xs.reverse.find? p = some x := by
  have hnone : older.reverse.find? p = none := by simpa using hlast
  rw [hxs, List.reverse_append, List.reverse_cons, List.append_assoc, List.find?_append, hnone, Option.none_or,
    List.singleton_append, List.find?_cons_of_pos hx]

end

/-- Settles O39: the lines of Table 5-4 in turn. -/
theorem recipeLookup : Obligations.RecipeLookup := by
  intro s n l has woken marked ready loading refused candidate
  have hentry (p : CacheEntry → Bool) {P : CacheEntry → Prop} (hp : ∀ c, p c = true ↔ P c) :
      (∃ e, s.entryWith n p = some e) ↔ has P := by
    rw [entryWith_isSome]
    simp only [hp]
    rfl
  have hwoken : (∃ e, s.entryWith n (fun c => c.waiters[l] && decide (c.state = .valid)) = some e) ↔ woken :=
    hentry _ (P := fun c => c.waiters[l] = true ∧ c.state = .valid) (by simp)
  have hmarked : (∃ e, s.entryWith n (fun c => c.waiters[l] && decide (c.state = .invalid) && c.mark.isSome) = some e) ↔ marked :=
    hentry _ (P := fun c => c.waiters[l] = true ∧ c.state = .invalid ∧ c.mark ≠ none) (by simp [and_assoc, Option.isSome_iff_ne_none])
  have hready : (∃ e, s.entryWith n (fun c => decide (c.state = .valid) && !c.stale) = some e) ↔ ready :=
    hentry _ (P := fun c => c.state = .valid ∧ c.stale = false) (by simp)
  have hloading : (∃ e, s.entryWith n (fun c => decide (c.state = .loading) && !c.stale) = some e) ↔ loading :=
    hentry _ (P := fun c => c.state = .loading ∧ c.stale = false) (by simp)
  have hrefused : (∃ e, s.entryWith n (fun c => decide (c.state = .invalid) && c.mark.isSome) = some e) ↔ refused :=
    hentry _ (P := fun c => c.state = .invalid ∧ c.mark ≠ none) (by simp [Option.isSome_iff_ne_none])
  have hnone {p : CacheEntry → Bool} {P : Prop} (h : (∃ e, s.entryWith n p = some e) ↔ P) (hnot : ¬ P) :
      s.entryWith n p = none := Option.eq_none_iff_forall_ne_some.2 fun e he => hnot (h.1 ⟨e, he⟩)
  refine ⟨fun h => ?_, fun h h' => ?_, fun h h' h'' => ?_, fun h h' h'' h3 => ?_, fun h h' h'' h3 h4 => ?_,
    fun h h' h'' h3 h4 => ?_⟩
  · obtain ⟨e, he⟩ := hwoken.2 h
    obtain ⟨hnumber, hp⟩ := entryWith_some s he
    rw [Bool.and_eq_true, decide_eq_true_eq] at hp
    refine ⟨e, ?_, hnumber, hp⟩
    rw [State.lookup, he]
  · obtain ⟨e, he⟩ := hmarked.2 h'
    rw [State.lookup, hnone hwoken h, he]
    rfl
  · obtain ⟨e, he⟩ := hready.2 h''
    obtain ⟨hnumber, hp⟩ := entryWith_some s he
    rw [Bool.and_eq_true, decide_eq_true_eq, Bool.not_eq_true'] at hp
    refine ⟨e, ?_, hnumber, hp⟩
    rw [State.lookup, hnone hwoken h, hnone hmarked h', he]
    rfl
  · obtain ⟨e, he⟩ := hloading.2 h3
    obtain ⟨hnumber, hp⟩ := entryWith_some s he
    rw [Bool.and_eq_true, decide_eq_true_eq, Bool.not_eq_true'] at hp
    refine ⟨e, ?_, hnumber, hp⟩
    rw [State.lookup, hnone hwoken h, hnone hmarked h', hnone hready h'', he]
    rfl
  · obtain ⟨e, he⟩ := hrefused.2 h4
    rw [State.lookup, hnone hwoken h, hnone hmarked h', hnone hready h'', hnone hloading h3, he]
    rfl
  · have hvictim : s.lookup n l = match s.victim with
        | some e => .load e
        | none => .full := by
      rw [State.lookup, hnone hwoken h, hnone hmarked h', hnone hready h'', hnone hloading h3, hnone hrefused h4]
      rfl
    have hcandidate (e : EntryId) : s.cache[e].candidate = true ↔ candidate e := candidate_iff s.cache[e]
    have hfresh (e : EntryId) :
        (s.cache[e].candidate && decide (s.cache[e].state = .invalid) && s.cache[e].mark.isNone) = true ↔
          candidate e ∧ s.cache[e].state = .invalid ∧ s.cache[e].mark = none := by
      rw [Bool.and_eq_true, Bool.and_eq_true, hcandidate, decide_eq_true_eq, Option.isNone_iff_eq_none, and_assoc]
    have hvalid (e : EntryId) : (s.cache[e].candidate && decide (s.cache[e].state = .valid)) = true ↔
        candidate e ∧ s.cache[e].state = .valid := by rw [Bool.and_eq_true, hcandidate, decide_eq_true_eq]
    have hinvalid (e : EntryId) : (s.cache[e].candidate && decide (s.cache[e].state = .invalid)) = true ↔
        candidate e ∧ s.cache[e].state = .invalid := by rw [Bool.and_eq_true, hcandidate, decide_eq_true_eq]
    have hnofresh (hno : ∀ e', ¬ (candidate e' ∧ s.cache[e'].state = .invalid ∧ s.cache[e'].mark = none)) :
        (List.finRange 8).find? (fun e => s.cache[e].candidate && decide (s.cache[e].state = .invalid) &&
          s.cache[e].mark.isNone) = none :=
      List.find?_eq_none.2 fun e _ => mt (hfresh e).1 (hno e)
    refine ⟨fun e he hstate hmark hfirst => ?_, fun e older newer hno hlist he hstate hlast => ?_,
      fun e older newer hno hlist he hlast => ?_, fun hno => ?_⟩
    · rw [hvictim, State.victim, find_first 8 _ e ((hfresh e).2 ⟨he, hstate, hmark⟩) fun e' he' =>
        Bool.eq_false_iff.2 (mt (hfresh e').1 (hfirst e' he'))]
    · rw [hvictim, State.victim, hnofresh hno, find_reverse hlist ((hvalid e).2 ⟨he, hstate⟩) fun e' he' =>
        mt (hvalid e').1 (hlast e' he')]
    · have hold : ∀ e' ∈ s.lastUse.reverse,
          ¬ (s.cache[e'].candidate && decide (s.cache[e'].state = .valid)) = true := by
        intro e' _ hv
        obtain ⟨hc, hstate⟩ := (hvalid e').1 hv
        exact absurd (hstate.symm.trans (hno e' hc).1) nofun
      rw [hvictim, State.victim, hnofresh fun e' ⟨hc, _, hmark⟩ => (hno e' hc).2 hmark, List.find?_eq_none.2 hold,
        find_reverse hlist ((hinvalid e).2 ⟨he, (hno e he).1⟩) fun e' he' h => hlast e' he' ((hinvalid e').1 h).1]
    · have hnovalid : s.lastUse.reverse.find? (fun e => s.cache[e].candidate && decide (s.cache[e].state = .valid)) = none :=
        List.find?_eq_none.2 fun e _ h => hno e ((hvalid e).1 h).1
      have hnoinvalid : s.lastUse.reverse.find? (fun e => s.cache[e].candidate && decide (s.cache[e].state = .invalid)) =
          none := List.find?_eq_none.2 fun e _ h => hno e ((hinvalid e).1 h).1
      rw [hvictim, State.victim, hnofresh fun e' ⟨hc, _⟩ => hno e' hc, hnovalid, hnoinvalid]

/-! ### Loads -/

section

variable {m : Mem} {past early : List Host.Cell} {a : Nat}

theorem loadSrc_memory {o : Nat} (h : ∀ c ∈ early, c.1 = o → (a + c.1, c.2) ∉ past) :
    loadSrc m past a early o = Mem.read m (a + o) := by
  have hnone : early.find? (fun c => decide (c.1 = o) && past.contains (a + o, c.2)) = none := by
    rw [List.find?_eq_none]
    intro c hc hfound
    rw [Bool.and_eq_true, decide_eq_true_eq, List.contains_iff_mem] at hfound
    obtain ⟨ho, hmem⟩ := hfound
    exact h c hc ho (by rwa [ho])
  rw [loadSrc, hnone]

theorem loadSrc_replaced {before after : List Host.Cell} {c : Host.Cell} (hearly : early = before ++ c :: after)
    (hc : (a + c.1, c.2) ∈ past) (h : ∀ d ∈ before, d.1 = c.1 → (a + d.1, d.2) ∉ past) :
    loadSrc m past a early c.1 = c.2 := by
  have hnone : before.find? (fun d => decide (d.1 = c.1) && past.contains (a + c.1, d.2)) = none := by
    rw [List.find?_eq_none]
    intro d hd hfound
    rw [Bool.and_eq_true, decide_eq_true_eq, List.contains_iff_mem] at hfound
    obtain ⟨ho, hmem⟩ := hfound
    exact h d hd ho (by rwa [ho])
  have hfound : early.find? (fun d => decide (d.1 = c.1) && past.contains (a + c.1, d.2)) = some c := by
    rw [hearly, List.find?_append, hnone, Option.none_or, List.find?_cons_of_pos]
    simp [hc]
  rw [loadSrc, hfound]

end

/-- The entry as a load that took the bytes `src` leaves it. -/
def CacheEntry.loaded (src : Nat → Byte) (c : CacheEntry) : CacheEntry :=
  match refusalOf src with
  | none =>
    { c with
      state := .valid, copy := recipeOf src, trendE := (recipeOf src).trendE, trendCnt := (recipeOf src).trendCount
      dirty := false, load := .none }
  | some mark => { c with state := .invalid, mark := some mark, load := .none }

theorem loaded_waiters (src : Nat → Byte) (c : CacheEntry) : (c.loaded src).waiters = c.waiters := by
  unfold CacheEntry.loaded
  split <;> rfl

section

variable (s : State) (e : EntryId) (src : Nat → Byte)

/-- A load that completes, said once for both of its ends. -/
theorem installLoad_eq : s.installLoad e src =
    { ((s.modEntry e (CacheEntry.loaded src)).wakeLoading e).wakeRecipeIf
        ((refusalOf src).isSome || s.cache[e].waitersEmpty) with lastUse := moveToFront e s.lastUse } := by
  unfold State.installLoad CacheEntry.loaded
  cases refusalOf src <;> rfl

theorem finishLoad_eq : s.finishLoad e src = { s with
    cache := modAt s.cache e (CacheEntry.loaded src)
    lastUse := moveToFront e s.lastUse
    lanes := (s.finishLoad e src).lanes
    past := if s.readsAlone e then [] else s.past } := by
  unfold State.finishLoad
  rw [installLoad_eq, wakeRecipeIf_frame, wakeLoading_frame]
  rfl

/-- A lane in LOADING and a lane in WAIT_RECIPE wake for different reasons. -/
theorem wokenLane_eq (n : Lane) (waits wakes : Prop) [Decidable waits] [Decidable wakes] :
    (if (if waits ∧ n.state = .loading then { n with state := .ready } else n).state = .waitRecipe ∧ wakes then
      { (if waits ∧ n.state = .loading then { n with state := .ready } else n) with state := .ready }
    else if waits ∧ n.state = .loading then { n with state := .ready } else n) =
    if (n.state = .loading ∧ waits) ∨ (n.state = .waitRecipe ∧ wakes) then { n with state := .ready } else n := by
  by_cases hloading : waits ∧ n.state = .loading
  · have hleft : (n.state = .loading ∧ waits) ∨ (n.state = .waitRecipe ∧ wakes) := .inl hloading.symm
    rw [if_pos hloading, if_pos hleft, if_neg (fun h => absurd h.1 nofun)]
  · rw [if_neg hloading]
    refine if_congr ⟨.inr, ?_⟩ rfl rfl
    rintro (⟨hstate, hwaits⟩ | h)
    · exact absurd ⟨hwaits, hstate⟩ hloading
    · exact h

theorem finishLoad_lane (l : LaneId) : (s.finishLoad e src).lanes[l] =
    if (s.lanes[l].state = .loading ∧ s.cache[e].waiters[l] = true) ∨ (s.lanes[l].state = .waitRecipe ∧
        (refusalOf src ≠ none ∨ ∀ i : LaneId, s.cache[e].waiters[i] = false)) then
      { s.lanes[l] with state := .ready }
    else s.lanes[l] := by
  have hwaiters : (s.modEntry e (CacheEntry.loaded src)).cache[e].waiters[l] = s.cache[e].waiters[l] := by
    rw [State.modEntry_cache, modAt_get_self, loaded_waiters]
  have hwakes : ((refusalOf src).isSome || s.cache[e].waitersEmpty) = true ↔
      (refusalOf src ≠ none ∨ ∀ i : LaneId, s.cache[e].waiters[i] = false) := by
    rw [Bool.or_eq_true, Option.isSome_iff_ne_none, waitersEmpty_iff]
  have hloaded := wakeLoading_lane (s.modEntry e (CacheEntry.loaded src)) e l
  rw [hwaiters, State.modEntry_lanes] at hloaded
  have hlane := wakeRecipeIf_lane ((s.modEntry e (CacheEntry.loaded src)).wakeLoading e)
    ((refusalOf src).isSome || s.cache[e].waitersEmpty) l
  simp only [hloaded, hwakes] at hlane
  unfold State.finishLoad
  rw [installLoad_eq]
  exact hlane.trans (wokenLane_eq _ _ _)

theorem readsAlone_of_none (h : ∀ (e' : EntryId) (n : Nat), e' ≠ e → s.cache[e'].load ≠ .reading n) : s.readsAlone e = true := by
  unfold State.readsAlone
  rw [List.all_eq_true]
  intro e' _
  by_cases he : e' = e
  · simp [he]
  · have hload : s.cache[e'].loadReading = false := by
      unfold CacheEntry.loadReading
      split
      · next n hn => exact absurd hn (h e' n he)
      · rfl
      · rfl
    rw [hload, Bool.or_eq_true]
    exact .inr rfl

theorem readsAlone_of_some {e' : EntryId} {n : Nat} (he : e' ≠ e) (h : s.cache[e'].load = .reading n) :
    ¬ s.readsAlone e = true := by
  unfold State.readsAlone
  rw [List.all_eq_true]
  intro hall
  have hreading : s.cache[e'].loadReading = true := by rw [CacheEntry.loadReading, h]
  have hboth := hall e' (List.mem_finRange e')
  rw [hreading] at hboth
  simp [he] at hboth

end

theorem refusalOf_notValid (src : Nat → Byte) : (src 0).getLsbD 0 = false ↔ refusalOf src = some .notValid := by
  constructor
  · intro h
    exact if_pos h
  · intro h
    by_contra hvalid
    unfold refusalOf at h
    split_ifs at h with hbit
    · exact hvalid hbit
    all_goals exact Refused.noConfusion (Option.some.inj h)

/-- Settles O43. -/
theorem recipeLoadCompletes : Obligations.RecipeLoadCompletes := by
  intro e early since s hworking hload a replaced
  refine ⟨s.finishLoad e (loadSrc s.mem (s.past.drop since) a early), loadSrc s.mem (s.past.drop since) a early, ?_,
    fun o h => loadSrc_memory h, fun before c after hearly hc h => loadSrc_replaced hearly hc h, ?_, fun h => ?_,
    fun ⟨e', n, he, h⟩ => ?_, fun l => finishLoad_lane s e _ l, refusalOf_notValid _⟩
  · show execRecipeLoadDone e early .returned s = _
    rw [execRecipeLoadDone, hload]
    exact if_pos (working_of hworking)
  · rw [finishLoad_eq]
    rfl
  · rw [finishLoad_eq]
    exact if_pos (readsAlone_of_none s e h)
  · rw [finishLoad_eq]
    exact if_neg (readsAlone_of_some s e he h)

/-! ### Trend writebacks -/

section

variable {since addr : Nat} {c : CacheEntry}

theorem trendStored_deferred (h : c.deferred = true) : c.trendStored since addr =
    { c with deferred := false, dirty := false, writing := some ⟨addr, c.trendE, c.trendCnt⟩ } := by
  unfold CacheEntry.trendStored
  exact (if_pos h).trans (takeTrend_free (c := { c with writing := none, deferred := false }) rfl addr)

theorem trendStored_afterTrend (h : c.deferred = false) (hload : c.load = .afterTrend) :
    c.trendStored since addr = { c with writing := none, load := .reading since } := by
  unfold CacheEntry.trendStored
  exact (if_neg (by rw [h]; exact nofun)).trans (if_pos hload)

theorem trendStored_stale (h : c.deferred = false) (hload : c.load ≠ .afterTrend)
    (hstale : c.state = .valid ∧ c.stale = true ∧ c.pins = 0) : c.trendStored since addr = { c with
      writing := none, state := .invalid, stale := false, mark := none, waiters := Vector.replicate 16 false } := by
  unfold CacheEntry.trendStored
  exact ((if_neg (by rw [h]; exact nofun)).trans (if_neg hload)).trans (if_pos hstale)

theorem trendStored_plain (h : c.deferred = false) (hload : c.load ≠ .afterTrend)
    (hstale : ¬ (c.state = .valid ∧ c.stale = true ∧ c.pins = 0)) : c.trendStored since addr = { c with writing := none } := by
  unfold CacheEntry.trendStored
  exact ((if_neg (by rw [h]; exact nofun)).trans (if_neg hload)).trans (if_neg hstale)

end

theorem trendWakes_iff (before after : CacheEntry) : trendWakes before after = true ↔ before.pins = 0 ∧
    (before.state = .valid ∧ ((∀ i : LaneId, before.waiters[i] = false) ∨ after.state = .invalid) ∨
      after.state ≠ .loading ∧ after.pins = 0 ∧ (∀ i : LaneId, after.waiters[i] = false) ∧ after.writing = none) := by
  unfold trendWakes
  rw [Bool.and_eq_true, Bool.or_eq_true, Bool.and_eq_true, Bool.or_eq_true, candidate_iff, waitersEmpty_iff]
  simp only [decide_eq_true_eq]

/-- Settles O45. -/
theorem trendWordsStored : Obligations.TrendWordsStored := by
  intro e w s hrun hwriting c table
  have hexec : exec (.trendWritebackDone e) s = .next (s.trendDone e w) := by
    show execTrendWritebackDone e s = _
    rw [execTrendWritebackDone, hwriting]
    exact if_pos (by simpa [State.unfaulted] using hrun)
  have hframe : s.trendDone e w = { s with
      mem := (s.store w.addr w.bytes).mem
      past := (s.store w.addr w.bytes).past
      lanes := (s.trendDone e w).lanes
      cache := modAt s.cache e fun _ => c.trendStored (s.store w.addr w.bytes).past.length (table + 36) } := by
    unfold State.trendDone
    dsimp only
    rw [wakeRecipeIf_frame]
    rfl
  have hcache : (s.trendDone e w).cache =
      modAt s.cache e fun _ => c.trendStored (s.store w.addr w.bytes).past.length (table + 36) := by rw [hframe]
  have hpast : (s.trendDone e w).past = (s.store w.addr w.bytes).past := by rw [hframe]
  have hmem : (s.trendDone e w).mem = (s.store w.addr w.bytes).mem := by rw [hframe]
  have hentry : (s.trendDone e w).cache[e] = c.trendStored (s.trendDone e w).past.length (table + 36) := by
    rw [hcache, hpast]
    exact modAt_get_self _ _ _
  refine ⟨s.trendDone e w, hexec, ?_, fun e' he => ?_, ?_, fun h => ?_, fun h hload => ?_, fun h hload hstale => ?_,
    fun h hload hstale => ?_, fun l => ?_⟩
  · rw [hmem, hpast, hcache]
    exact hframe
  · rw [hcache]
    exact modAt_ne _ _ _ _ he
  · exact stores_of hmem hpast
  · exact hentry.trans (trendStored_deferred h)
  · exact hentry.trans (trendStored_afterTrend h hload)
  · exact hentry.trans (trendStored_stale h hload hstale)
  · exact hentry.trans (trendStored_plain h hload hstale)
  · have hlane := wakeRecipeIf_lane ((s.store w.addr w.bytes).modEntry e fun _ =>
      c.trendStored (s.store w.addr w.bytes).past.length (table + 36))
      (trendWakes c (c.trendStored (s.store w.addr w.bytes).past.length (table + 36))) l
    simp only [trendWakes_iff] at hlane
    rw [hentry, hpast]
    exact hlane

end Sys2Proof.Machine
end

section
/-!
PROOFS. Lane commands and half returns: what the decision on a lane command is case by case, what a RETIRE does when it is
carried out, and what the return of a half leaves. They settle O12, O13, O14, O15 and O42.
-/

namespace Sys2Proof.Machine

/-! ### The decision on a lane command -/

section

variable {s : State} {code : CmdCode}

theorem laneCommand_busy (h : s.command.progress ≠ .none) (code : CmdCode) (l : LaneId) : s.laneCommand code l = s.refuse :=
  if_pos (decide_eq_true h)

theorem laneCommand_free (h : s.command.progress = .none) (code : CmdCode) (l : LaneId) : s.laneCommand code l =
    if code = 0 ∨ code = 6 ∨ code = 7 then s.readback code l .badCommand
    else if s.engine.run ≠ .running then s.readback code l .engineNotRunning
    else s.laneCommandTaken code l :=
  if_neg (by rw [State.commandBusy, h]; exact nofun)

theorem laneCommand_unnamed (h : s.command.progress = .none) (hcode : code = 0 ∨ code = 6 ∨ code = 7) (l : LaneId) :
    s.laneCommand code l = s.readback code l .badCommand := (laneCommand_free h code l).trans (if_pos hcode)

theorem laneCommand_notRunning (h : s.command.progress = .none) (hcode : ¬ (code = 0 ∨ code = 6 ∨ code = 7))
    (hrun : s.engine.run ≠ .running) (l : LaneId) : s.laneCommand code l = s.readback code l .engineNotRunning :=
  ((laneCommand_free h code l).trans (if_neg hcode)).trans (if_pos hrun)

theorem laneCommand_taken (h : s.command.progress = .none) (hcode : ¬ (code = 0 ∨ code = 6 ∨ code = 7))
    (hrun : s.engine.run = .running) (l : LaneId) : s.laneCommand code l = s.laneCommandTaken code l :=
  ((laneCommand_free h code l).trans (if_neg hcode)).trans (if_neg (not_not_intro hrun))

/-- A command and the code with which it is written (R173). -/
def Instr.writes (c : Instr) (code : CmdCode) (l : LaneId) : Prop :=
  c = .enable l ∧ code = 1 ∨ c = .disable l ∧ code = 2 ∨ c = .hold l ∧ code = 3 ∨ c = .release l ∧ code = 4 ∨
    c = .retire l ∧ code = 5 ∨ c = .badCommand code l ∧ (code = 0 ∨ code = 6 ∨ code = 7)

/-- A lane command that sets no flag is the decision of the Lane Table. -/
theorem exec_laneCommand {c : Instr} {l : LaneId} (hc : Instr.writes c code l)
    (hquiet : announce s (s.laneCommand code l) = s.laneCommand code l) : exec c s = .next (s.laneCommand code l) := by
  rcases hc with ⟨rfl, rfl⟩ | ⟨rfl, rfl⟩ | ⟨rfl, rfl⟩ | ⟨rfl, rfl⟩ | ⟨rfl, rfl⟩ | ⟨rfl, -⟩
  · rfl
  · rfl
  · rfl
  · rfl
  · exact congrArg Host.Outcome.next hquiet
  · exact congrArg Host.Outcome.next hquiet

theorem writes_unnamed {c : Instr} {l : LaneId} (hc : Instr.writes c code l) (hbad : c = .badCommand code l) :
    code = 0 ∨ code = 6 ∨ code = 7 := by
  subst hbad
  rcases hc with ⟨h, -⟩ | ⟨h, -⟩ | ⟨h, -⟩ | ⟨h, -⟩ | ⟨h, -⟩ | ⟨-, h⟩
  · exact absurd h nofun
  · exact absurd h nofun
  · exact absurd h nofun
  · exact absurd h nofun
  · exact absurd h nofun
  · exact h

theorem writes_named {c : Instr} {l : LaneId} (hc : Instr.writes c code l) (hbad : c ≠ .badCommand code l) :
    ¬ (code = 0 ∨ code = 6 ∨ code = 7) := by
  rcases hc with ⟨-, rfl⟩ | ⟨-, rfl⟩ | ⟨-, rfl⟩ | ⟨-, rfl⟩ | ⟨-, rfl⟩ | ⟨h, -⟩
  · decide
  · decide
  · decide
  · decide
  · decide
  · exact absurd h hbad

end

/-- Settles O12. -/
theorem laneCommandsDecided : Obligations.LaneCommandsDecided := by
  refine ⟨fun l s c code hc => ⟨fun hbusy => ?_, fun hfree hbad => ?_, fun hfree hnamed hrun => ?_⟩,
    fun l s hrun hfree => ?_⟩
  · have hdecided := laneCommand_busy hbusy code l
    rw [exec_laneCommand hc (by rw [hdecided]; exact announce_quiet s _ rfl rfl rfl rfl), hdecided]
    rfl
  · have hdecided := laneCommand_unnamed hfree (writes_unnamed hc hbad) l
    rw [exec_laneCommand hc (by rw [hdecided]; exact announce_quiet s _ rfl rfl rfl rfl), hdecided]
    rfl
  · have hdecided := laneCommand_notRunning hfree (writes_named hc hnamed) hrun l
    rw [exec_laneCommand hc (by rw [hdecided]; exact announce_quiet s _ rfl rfl rfl rfl), hdecided]
    rfl
  · have htaken (code : CmdCode) (hcode : ¬ (code = 0 ∨ code = 6 ∨ code = 7)) :
        Host.Outcome.next (σ := State) (φ := Fault) (ρ := Refusal) (s.laneCommand code l) = .next (s.laneCommandTaken code l) :=
      congrArg Host.Outcome.next (laneCommand_taken hfree hcode hrun l)
    have hdisable : s.laneCommandTaken cmdDisable l = if s.lanes[l].inService = none ∧ s.lanes[l].ctx = none then
        (s.modLane l fun n => { n.voidLook with state := .disabled }).readback cmdDisable l .done
      else s.readback cmdDisable l .laneBusy := rfl
    refine ⟨fun h => ?_, fun h => ?_, fun hhalf hctx => ?_, fun h => ?_, htaken cmdHold (by decide),
      htaken cmdRelease (by decide)⟩
    · exact (htaken cmdEnable (by decide)).trans (congrArg Host.Outcome.next (if_pos h))
    · exact (htaken cmdEnable (by decide)).trans (congrArg Host.Outcome.next (if_neg h))
    · exact (htaken cmdDisable (by decide)).trans (congrArg Host.Outcome.next (hdisable.trans (if_pos ⟨hhalf, hctx⟩)))
    · refine (htaken cmdDisable (by decide)).trans (congrArg Host.Outcome.next (hdisable.trans (if_neg ?_)))
      exact fun ⟨hhalf, hctx⟩ => h.elim (absurd hhalf) (absurd hctx)

/-! ### Descriptors -/

theorem enableLane_lanes (s : State) (l : LaneId) (bad : Bool) (d : Descriptor) : (s.enableLane l bad d).lanes =
    if bad = true then modAt s.lanes l fun n => { n with state := .faulted, cause := .memLane }
    else if d.ok = true then modAt s.lanes l fun n => { n with
      state := .idle, expected := .a, inService := none, cause := .none, priority := d.priority
      capacity := d.capacity, halfA := d.halfA, halfB := d.halfB }
    else modAt s.lanes l fun n => { n with state := .faulted, cause := .badDescriptor } := by
  unfold State.enableLane
  cases bad <;> cases d.ok <;> rfl

theorem enableLane_notices (s : State) (l : LaneId) (bad : Bool) (d : Descriptor) : (s.enableLane l bad d).notices =
    if bad = true ∨ d.ok = false then modAt s.notices l fun n => { n with fault := true } else s.notices := by
  unfold State.enableLane
  cases bad <;> cases d.ok <;> rfl

theorem enableLane_frame (s : State) (l : LaneId) (bad : Bool) (d : Descriptor) :
    s.enableLane l bad d = { s with lanes := (s.enableLane l bad d).lanes, notices := (s.enableLane l bad d).notices } := by
  unfold State.enableLane
  repeat' split
  all_goals rfl

/-- The tests of R122, one by one. -/
theorem descriptorOk_iff (d : Descriptor) : d.ok = true ↔
    1 ≤ d.capacity ∧ d.capacity ≤ 256 ∧ d.halfA % 64 = 0 ∧ d.halfB % 64 = 0 ∧ d.halfA + (64 + d.capacity * 64) ≤ 2 ^ 32 ∧
      d.halfB + (64 + d.capacity * 64) ≤ 2 ^ 32 ∧
      (d.halfA + (64 + d.capacity * 64) ≤ d.halfB ∨ d.halfB + (64 + d.capacity * 64) ≤ d.halfA) := by
  have hmemory (a n : Nat) : inMemory a n = true ↔ a + n ≤ 2 ^ 32 := decide_eq_true_iff
  unfold Descriptor.ok halfBytes
  simp only [hmemory, Bool.and_eq_true, Bool.or_eq_true, decide_eq_true_eq, and_assoc]

theorem get32_bytes (src : Nat → Byte) (o : Nat) : get32 src o =
    (src o).toNat + 256 * (src (o + 1)).toNat + 65536 * (src (o + 2)).toNat + 16777216 * (src (o + 3)).toNat := by
  show (src o).toNat + 256 * (src (o + 1)).toNat + 65536 * ((src (o + 2)).toNat + 256 * (src (o + 3)).toNat) = _
  omega

/-- Settles O13. -/
theorem enableReadsDescriptorWord : Obligations.EnableReadsDescriptorWord := by
  refine ⟨fun bad l s hworking hprogress => ?_, fun src => ?_⟩
  · intro d
    have hexec : exec (.enableDescriptorRead bad) s = .next (announce s (s.enableLane l bad d).commandDone) := by
      show execEnableDescriptorRead bad s = _
      rw [execEnableDescriptorRead, hprogress]
      exact if_pos (working_of hworking)
    refine ⟨_, hexec, ?_, enableLane_lanes s l bad d, enableLane_notices s l bad d⟩
    rw [announce_eq, enableLane_frame]
    rfl
  · intro byte d n
    exact ⟨rfl, rfl, rfl, get32_bytes src 4, get32_bytes src 8, descriptorOk_iff d⟩

/-! ### What the close of a context leaves of the lanes -/

section

variable {s : State}

@[simp] theorem State.kickSlot_lanes (s : State) (k : CtxId) : (s.kickSlot k).lanes = s.lanes := by
  obtain ⟨p, hp⟩ := kickSlot_frame s k
  rw [hp, State.modCtx_lanes]

@[simp] theorem State.addJob_lanes (s : State) (k : CtxId) (j : SlotJob) : (s.addJob k j).lanes = s.lanes := by
  rw [State.addJob, State.kickSlot_lanes, State.modCtx_lanes]

@[simp] theorem State.rewrite_lanes (s : State) (k : CtxId) (why : RewriteFor) : (s.rewrite k why).lanes = s.lanes :=
  s.addJob_lanes k _

@[simp] theorem State.closeTotals_lanes (s : State) (k : CtxId) : (s.closeTotals k).lanes = s.lanes := by
  rw [State.closeTotals, State.addJob_lanes, State.modLot_lanes]

/-- Lane `l` has the half of `s` in service. -/
def State.keepsHalf (s t : State) (l : LaneId) : Prop := t.lanes[l].inService = s.lanes[l].inService

theorem keepsHalf_of_lanes {t : State} (h : t.lanes = s.lanes) (l : LaneId) : s.keepsHalf t l := by
  unfold State.keepsHalf
  rw [h]

theorem keepsHalf_modLane (s : State) (i : LaneId) {f : Lane → Lane} (hf : (f s.lanes[i]).inService = s.lanes[i].inService)
    (l : LaneId) : s.keepsHalf (s.modLane i f) l :=
  modAt_rel (R := fun m n : Lane => n.inService = m.inService) (fun _ => rfl) s.lanes i f hf l

theorem State.keepsHalf.trans {t u : State} {l : LaneId} (h : s.keepsHalf t l) (h' : t.keepsHalf u l) : s.keepsHalf u l :=
  Eq.trans (b := t.lanes[l].inService) h' h

theorem keepsHalf_setHold (s : State) (i l : LaneId) : s.keepsHalf (s.setHold i) l :=
  keepsHalf_modLane s i (f := fun n => { n with hold := true }) rfl l

theorem keepsHalf_raiseEvents (s : State) (i : LaneId) (r : Recipe) (evs : List Event) (l : LaneId) :
    s.keepsHalf (s.raiseEvents i r evs) l := by
  have halarm : (if evs.any (Event.enabled r) then s.setAlarm i else s).lanes = s.lanes := by split <;> rfl
  unfold State.raiseEvents
  dsimp only
  split
  · exact (keepsHalf_of_lanes halarm l).trans (keepsHalf_setHold _ i l)
  · exact keepsHalf_of_lanes halarm l

theorem keepsHalf_closeTrend (s : State) (k : CtxId) (l : LaneId) : s.keepsHalf (s.closeTrend k) l := by
  unfold State.closeTrend
  dsimp only
  split
  · split
    · have hraised := keepsHalf_raiseEvents ((s.modEntry s.ctxs[k].entry (CacheEntry.trendUpdated (s.recipeFor k) s.ctxs[k])).modCtx
        k fun c => { c with latched := { c.latched with trend := true } }) s.ctxs[k].lane (s.recipeFor k) [⟨.trendLow, true⟩] l
      split
      · exact State.keepsHalf.trans hraised (keepsHalf_of_lanes (State.rewrite_lanes _ _ _) l)
      · exact State.keepsHalf.trans hraised (keepsHalf_of_lanes (State.closeTotals_lanes _ _) l)
    · exact keepsHalf_of_lanes (State.closeTotals_lanes _ _) l
  · exact keepsHalf_of_lanes (State.closeTotals_lanes _ _) l

theorem keepsHalf_closeRows (s : State) (k : CtxId) (l : LaneId) : s.keepsHalf (s.closeRows k) l := by
  unfold State.closeRows
  split
  · exact keepsHalf_of_lanes (s := s) rfl l
  · exact keepsHalf_closeTrend s k l

theorem keepsHalf_beginLotItem (s : State) (i : LotId) (l : LaneId) : s.keepsHalf (s.beginLotItem i) l := by
  unfold State.beginLotItem
  dsimp only
  split
  · have halarm : (if s.lots[i].assertFlag then (s.modLot i fun t => { t with lowFlag := true }).setAlarm s.lots[i].endingLane
        else s.modLot i fun t => { t with lowFlag := true }).lanes = s.lanes := by split <;> rfl
    split
    · exact (keepsHalf_of_lanes halarm l).trans (keepsHalf_setHold _ s.lots[i].endingLane l)
    · exact keepsHalf_of_lanes halarm l
  · exact keepsHalf_of_lanes (s := s) rfl l

theorem keepsHalf_serve (s : State) (l : LaneId) : s.keepsHalf s.serve l := by
  unfold State.serve
  split
  · split
    · next k tail hq =>
        unfold State.beginCtxItem
        split
        · exact keepsHalf_of_lanes (s := s) rfl l
        · exact keepsHalf_closeRows s k l
    · exact keepsHalf_beginLotItem s _ l
    · exact keepsHalf_of_lanes rfl l
  · exact keepsHalf_of_lanes rfl l

/-- A close, with the item that it adds spelled out. -/
theorem closeContext_eq (s : State) (k : CtxId) (cause : CloseCause) (why : RewriteFor) : s.closeContext k cause why =
    State.serve { State.rewrite { s with
        ctxs := modAt s.ctxs k fun c => { c with state := .closing, cause := cause, bound := false, idleDue := false }
        lanes := modAt s.lanes s.ctxs[k].lane fun n => { n with ctx := none } } k why with
      closeQ := s.closeQ ++ [.ctx k] } := by
  show State.serve { State.rewrite _ k why with closeQ := (State.rewrite _ k why).closeQ ++ [.ctx k] } = _
  rw [State.rewrite_closeQ]
  rfl

theorem keepsHalf_closeContext (s : State) (k : CtxId) (cause : CloseCause) (why : RewriteFor) (l : LaneId) :
    s.keepsHalf (s.closeContext k cause why) l := by
  rw [closeContext_eq]
  refine State.keepsHalf.trans (keepsHalf_modLane s s.ctxs[k].lane (f := fun n => { n with ctx := none }) rfl l) ?_
  refine State.keepsHalf.trans ?_ (keepsHalf_serve _ l)
  exact keepsHalf_of_lanes (State.rewrite_lanes _ k why) l

end

/-! ### A RETIRE carried out -/

section

variable {s : State} {l : LaneId}

theorem retireMustWait_iff : s.retireMustWait l = true ↔ (∃ m, s.merge = some m ∧ m.lane = l) ∨ s.lanes[l].ret ≠ .none := by
  unfold State.retireMustWait
  rw [Bool.or_eq_true, decide_eq_true_eq]
  refine or_congr_left ?_
  cases s.merge with
  | none => exact ⟨nofun, nofun⟩
  | some m => simp

/-- The state in which a RETIRE has taken the lane out (R141, step 1), its bound context still to be closed. -/
def State.laneRetired (s : State) (l : LaneId) : State := (s.modLane l Lane.retired).dropWaiter l

theorem laneRetired_frame : s.laneRetired l = { s with lanes := (s.laneRetired l).lanes, cache := (s.laneRetired l).cache } := by
  unfold State.laneRetired State.dropWaiter
  rw [wakeRecipeIf_frame]
  rfl

theorem laneRetired_entry (e : EntryId) :
    (s.laneRetired l).cache[e] = { s.cache[e] with waiters := s.cache[e].waiters.set l false } := by
  unfold State.laneRetired State.dropWaiter
  rw [wakeRecipeIf_frame]
  show (mapAll s.cache _)[e.val] = _
  rw [mapAll_get]
  rfl

theorem laneRetired_own : (s.laneRetired l).lanes[l] = { s.lanes[l] with
    state := .disabled, hold := false, look := s.lanes[l].look.map fun k => { k with void := true } } := by
  unfold State.laneRetired State.dropWaiter
  rw [wakeRecipeIf_lane]
  have hlane : ((s.modLane l Lane.retired).leaveWaiters l).lanes[l] = s.lanes[l].retired := modAt_get_self s.lanes l Lane.retired
  rw [hlane, if_neg (fun h => absurd h.1 nofun)]
  rfl

/-- When the waiter sets are left, an entry becomes a victim candidate. -/
theorem candidateFreed_iff : candidateFreed (s.modLane l Lane.retired) ((s.modLane l Lane.retired).leaveWaiters l) l = true ↔
    ∃ e : EntryId, s.cache[e].waiters[l] = true ∧ (∀ i : LaneId, i ≠ l → s.cache[e].waiters[i] = false) ∧
      s.cache[e].state ≠ .loading ∧ s.cache[e].pins = 0 ∧ s.cache[e].writing = none := by
  unfold candidateFreed
  simp only [List.any_eq_true, List.mem_finRange, true_and, Bool.and_eq_true]
  refine exists_congr fun e => and_congr_right fun _ => ?_
  have hentry : ((s.modLane l Lane.retired).leaveWaiters l).cache[e] =
      { s.cache[e] with waiters := s.cache[e].waiters.set l false } := by
    show (mapAll s.cache _)[e.val] = _
    rw [mapAll_get]
    rfl
  have hwaiters : (∀ i : LaneId, (s.cache[e].waiters.set l false)[i] = false) ↔
      ∀ i : LaneId, i ≠ l → s.cache[e].waiters[i] = false := by
    refine forall_congr' fun i => ?_
    by_cases hi : i = l
    · simp [hi]
    · simp [hi, Fin.val_ne_of_ne (Ne.symm hi)]
  rw [hentry, candidate_iff]
  dsimp only
  rw [hwaiters]
  tauto

theorem laneRetired_other {l' : LaneId} (h : l' ≠ l) : (s.laneRetired l).lanes[l'] =
    if s.lanes[l'].state = .waitRecipe ∧
        ∃ e : EntryId, s.cache[e].waiters[l] = true ∧ (∀ i : LaneId, i ≠ l → s.cache[e].waiters[i] = false) ∧
          s.cache[e].state ≠ .loading ∧ s.cache[e].pins = 0 ∧ s.cache[e].writing = none then
      { s.lanes[l'] with state := .ready }
    else s.lanes[l'] := by
  unfold State.laneRetired State.dropWaiter
  rw [wakeRecipeIf_lane]
  have hlane : ((s.modLane l Lane.retired).leaveWaiters l).lanes[l'] = s.lanes[l'] := modAt_ne s.lanes l l' Lane.retired h
  simp only [hlane, candidateFreed_iff]

/-- The bound context of the lane is closed. -/
def State.retireCloses (s : State) (l : LaneId) : State :=
  match s.lanes[l].ctx with
  | some k => (s.laneRetired l).closeContext k .retired .nothing
  | none => s.laneRetired l

theorem carryOut_eq : s.carryOut l = { s.retireCloses l with
    command := if s.lanes[l].inService = none then ⟨5, l, .done, .none⟩ else ⟨5, l, .pending, .retireSkipping l⟩ } := by
  have hstep : s.retireStep1 l = s.retireCloses l := rfl
  have hkeeps : s.keepsHalf (s.laneRetired l) l := by
    unfold State.keepsHalf
    rw [laneRetired_own]
  have hhalf : s.keepsHalf (s.retireCloses l) l := by
    unfold State.retireCloses
    split
    · exact hkeeps.trans (keepsHalf_closeContext _ _ _ _ l)
    · exact hkeeps
  unfold State.keepsHalf at hhalf
  unfold State.carryOut
  rw [hstep]
  dsimp only
  rw [hhalf]
  cases s.lanes[l].inService <;> rfl

end

/-- Settles O14. -/
theorem retireCarriedOut : Obligations.RetireCarriedOut := by
  intro l s hworking busy retired closed carried
  have hcarried : carried (s.carryOut l) := by
    refine ⟨s.laneRetired l, ⟨laneRetired_frame, laneRetired_entry, laneRetired_own, fun l' h => laneRetired_other h⟩, ?_⟩
    have hctxs : (s.laneRetired l).ctxs = s.ctxs := by rw [laneRetired_frame]
    have hqueue : (s.laneRetired l).closeQ = s.closeQ := by rw [laneRetired_frame]
    rw [carryOut_eq, State.retireCloses]
    cases s.lanes[l].ctx with
    | none => rfl
    | some k =>
      dsimp only
      dsimp only [closed]
      rewrite [closeContext_eq, hctxs, hqueue]
      rfl
  have htaken (hrun : s.engine.run = .running) (hfree : s.command.progress = .none) : s.laneCommand cmdRetire l =
      if s.lanes[l].state = .disabled then s.readback cmdRetire l .notActive else s.retireTaken l :=
    laneCommand_taken hfree (by decide) hrun l
  have hexec : exec (.retire l) s = .next (announce s (s.laneCommand cmdRetire l)) := rfl
  refine ⟨fun hrun hfree => ⟨fun hdisabled => ?_, fun hactive hbusy => ?_, fun hactive hidle => ?_⟩,
    fun hpending => ⟨fun hbusy => ?_, fun hidle => ?_⟩⟩
  · rw [hexec, htaken hrun hfree, if_pos hdisabled]
    exact congrArg Host.Outcome.next (announce_quiet s _ rfl rfl rfl rfl)
  · rw [hexec, htaken hrun hfree, if_neg hactive, State.retireTaken, if_pos (retireMustWait_iff.2 hbusy)]
    exact congrArg Host.Outcome.next (announce_quiet s _ rfl rfl rfl rfl)
  · refine ⟨s.carryOut l, announce s (s.carryOut l), ?_, hcarried, rfl⟩
    rw [hexec, htaken hrun hfree, if_neg hactive, State.retireTaken, if_neg (mt retireMustWait_iff.1 hidle)]
  · show execRetireCarryOut s = _
    rw [execRetireCarryOut, hpending]
    refine if_neg fun h => ?_
    rw [retireMustWait_iff.2 hbusy] at h
    exact absurd h.2 nofun
  · refine ⟨s.carryOut l, announce s (s.carryOut l).drainWork, ?_, hcarried, rfl, fun hrun => ?_⟩
    · show execRetireCarryOut s = _
      rw [execRetireCarryOut, hpending]
      exact if_pos ⟨working_of hworking, Bool.eq_false_iff.2 (mt retireMustWait_iff.1 hidle)⟩
    · have hengine : (s.carryOut l).engine = s.engine := congrArg Base.engine (s.carryOut_base l)
      rw [drainWork_running (by rw [hengine]; exact hrun)]
      rfl

/-! ### The writes of a RETIRE -/

section

variable {s : State} {l : LaneId} {v : InService}

theorem mem_skippedCells {n : Lane} {c : Host.Cell} : c ∈ n.skippedCells v ↔
    ∃ i, v.next ≤ i ∧ i < v.count ∧ c = (n.recordAddr v.half i + 1, 3) := by
  unfold Lane.skippedCells
  simp only [List.mem_map, List.mem_range'_1]
  constructor
  · rintro ⟨i, hi, rfl⟩
    exact ⟨i, by omega, by omega, rfl⟩
  · rintro ⟨i, hnext, hcount, rfl⟩
    exact ⟨i, by omega, rfl⟩

/-- Where every byte of a list of cells is `x`, a byte that they store reads `x`. -/
theorem read_writeCells_const {x : Byte} {a : Nat} (ha : a < 2 ^ 32) (cs : List Host.Cell) :
    ∀ (m : Mem), Mem.wf m = true → (∀ c ∈ cs, c.2 = x) → (a, x) ∈ cs → Mem.read (Mem.writeCells m cs) a = x := by
  induction cs with
  | nil => exact fun _ _ _ h => absurd h List.not_mem_nil
  | cons c cs ih =>
    intro m hwf hall hmem
    have hall' : ∀ d ∈ cs, d.2 = x := fun d hd => hall d (List.mem_cons_of_mem c hd)
    by_cases hrest : (a, x) ∈ cs
    · exact ih _ (Mem.wf_write c.1 c.2 hwf) hall' hrest
    · have hout : ∀ d ∈ cs, d.1 ≠ a := fun d hd hda => hrest (by rw [← hda, ← hall' d hd]; exact hd)
      have hc : c = (a, x) := (List.mem_cons.1 hmem).elim Eq.symm (absurd · hrest)
      subst hc
      exact (Mem.read_writeCells_out cs _ a hout).trans (Mem.read_write_self x hwf ha)

theorem retireCells_skipping (hhalf : s.lanes[l].inService = some v) (h : s.command.progress = .retireSkipping l) :
    s.retireCells = s.lanes[l].skippedCells v := by
  rw [State.retireCells, h]
  dsimp only
  rw [hhalf]

theorem retireCells_returning (hhalf : s.lanes[l].inService = some v) (h : s.command.progress = .retireReturning l) :
    s.retireCells = cellsAt (s.lanes[l].halfAddr v.half) (returnedWord statusRetired v.count) := by
  rw [State.retireCells, h]
  dsimp only
  rw [hhalf]

theorem skipped_inService {n : Lane} (h : n.inService = some v) :
    n.skipped = { n with inService := some { v with next := max v.next v.count } } := by
  have hnext : v.next + (v.count - v.next) = max v.next v.count := by omega
  rw [Lane.skipped, h, Option.map_some, hnext]

end

theorem writeCells_cellsAt (bs : List Byte) : ∀ (m : Mem) (a : Nat), Mem.writeCells m (cellsAt a bs) = Mem.writeBytes m a bs := by
  induction bs with
  | nil => exact fun _ _ => rfl
  | cons b bs ih => exact fun m a => ih (Mem.write m a b) (a + 1)

/-- Settles O15. -/
theorem retireReturnsHalf : Obligations.RetireReturnsHalf := by
  intro l v s hhalf
  refine ⟨fun hworking hskipping => ?_, fun hrun hreturning => ?_⟩
  · have hcells := retireCells_skipping hhalf hskipping
    have hexec : exec .skippedWritten s = .next { (s.storeCells s.retireCells).modLane l Lane.skipped with
        command := { s.command with progress := .retireReturning l } } := by
      show execSkippedWritten s = _
      rw [execSkippedWritten, hskipping]
      exact if_pos (working_of hworking)
    refine ⟨_, hexec, ?_, ?_, fun hwf i hnext hcount hsize => ?_, fun a ha => ?_⟩
    · have hlane : modAt s.lanes l Lane.skipped =
          modAt s.lanes l fun n => { n with inService := some { v with next := max v.next v.count } } :=
        modAt_congr _ _ _ _ (skipped_inService hhalf)
      rw [← hlane]
      rfl
    · rw [hcells]
      rfl
    · refine read_writeCells_const hsize _ s.mem hwf ?_ ?_
      · rw [hcells]
        intro c hc
        obtain ⟨j, -, -, rfl⟩ := mem_skippedCells.1 hc
        rfl
      · rw [hcells]
        exact mem_skippedCells.2 ⟨i, hnext, hcount, rfl⟩
    · refine Mem.read_writeCells_out _ s.mem a ?_
      rw [hcells]
      intro c hc
      obtain ⟨j, hnext, hcount, rfl⟩ := mem_skippedCells.1 hc
      exact Ne.symm (ha j hnext hcount)
  · have hcells := retireCells_returning hhalf hreturning
    have hexec : exec .retireReturnWritten s = .next (announce s ((((s.storeCells s.retireCells).modLane l fun n =>
        { n with inService := none }).setHandback l).commandDone.drainWork)) := by
      show execRetireReturnWritten s = _
      rw [execRetireReturnWritten, hreturning]
      exact if_pos (working_of (.inl hrun))
    have hdrain := drainWork_running (s := (((s.storeCells s.retireCells).modLane l fun n =>
        { n with inService := none }).setHandback l).commandDone) hrun
    rewrite [hdrain] at hexec
    refine ⟨_, hexec, rfl, stores_of ?_ ?_⟩
    · show Mem.writeCells s.mem s.retireCells = _
      rewrite [hcells]
      exact writeCells_cellsAt _ s.mem _
    · show s.past ++ s.replaced s.retireCells = _
      rewrite [hcells]
      rfl

/-! ### The return of a half -/

section

variable {s : State} {l : LaneId}

/-- Steps 3 and 4 of a return as one update. -/
theorem finishReturn_eq (s : State) (l : LaneId) : s.finishReturn l = { s with
    notices := modAt s.notices l fun n => { n with handback := true }
    lanes := modAt s.lanes l fun n => { n with
      inService := none
      expected := n.expected.other
      ret := .none
      look := if s.engine.run = .running ∧ s.command.progress ≠ .retirePending l ∧ n.look = none then
        some ⟨n.expected.other, n.halfAddr n.expected.other, false, false, .reading⟩ else n.look } } := by
  unfold State.finishReturn
  rw [chainLook_eq]
  unfold State.setHandback State.modLane
  dsimp only
  rw [modAt_modAt]
  rfl

/-- The write of a slot that begins next leaves the lanes and the notices alone, and does not depend on them. -/
theorem kickSlot_outside (s : State) (k : CtxId) (notices : Vector LaneNotice 16) (lanes : Vector Lane 16) :
    State.kickSlot { s with notices := notices, lanes := lanes } k =
      { s.kickSlot k with notices := notices, lanes := lanes } := by
  unfold State.kickSlot State.slotHeld
  dsimp only
  cases s.ctxs[k].slotPhase with
  | some _ => rfl
  | none =>
    cases s.ctxs[k].jobs with
    | nil => rfl
    | cons j js =>
      dsimp only
      split <;> rfl

/-- The context of a rewrite that has made its last write. -/
theorem rewriteDone_eq {k : CtxId} {job : SlotJob} {rest : List SlotJob} (h : s.ctxs[k].jobs = job :: rest) :
    (s.modCtx k fun c => { c with generation := c.generation + 2 }).dropJob k = { s with
      ctxs := modAt s.ctxs k fun c => { c with generation := c.generation + 2, jobs := rest, slotPhase := none } } := by
  unfold State.dropJob State.modCtx
  dsimp only
  rw [modAt_modAt]
  congr 1
  refine modAt_congr _ _ _ _ ?_
  rw [h]
  rfl

end

/-- Settles O42. -/
theorem halfReturned : Obligations.HalfReturned := by
  intro l v s hworking finished
  refine ⟨fun hwriting hhalf => ?_, fun k rest hphase hjobs hfree => ?_⟩
  · have hwrite : s.lanes[l].returnWrite = some (s.lanes[l].halfAddr v.half, returnedWord statusComplete v.count) := by
      rw [Lane.returnWrite, hwriting, hhalf]
    have hexec : exec (.halfReturnWritten l) s = .next (announce s ((s.storeOpt s.lanes[l].returnWrite).returnWritten l)) :=
      if_pos ⟨working_of hworking, hwriting⟩
    rw [hwrite] at hexec
    refine ⟨_, s.store (s.lanes[l].halfAddr v.half) (returnedWord statusComplete v.count), hexec, rfl,
      s.stores_store _ _, fun hunbound => ?_, fun k hbound => ?_⟩
    · rw [State.storeOpt, State.returnWritten, State.store_lanes, hunbound]
      dsimp only
      rewrite [finishReturn_eq]
      rfl
    · rw [State.storeOpt, State.returnWritten, State.store_lanes, hbound]
      dsimp only
      have hbase := State.rewrite_base ((s.store (s.lanes[l].halfAddr v.half) (returnedWord statusComplete v.count)).modLane l
        fun n => { n with ret := .rewriting }) k (.halfReturn l)
      exact announce_quiet s _ (State.rewrite_notices _ k _) (congrArg (fun b : Base => b.control.ien) hbase)
        (congrArg (fun b : Base => b.flags.drained) hbase) (congrArg (fun b : Base => b.flags.engine) hbase)
  · let w := s.store (s.slotAddr k + 64) (leBytes 4 (s.ctxs[k].generation + 2).toNat)
    let u : State := { w with
      ctxs := modAt s.ctxs k fun c => { c with generation := c.generation + 2, jobs := rest, slotPhase := none } }
    have hdone : (w.modCtx k fun c => { c with generation := c.generation + 2 }).dropJob k = u := rewriteDone_eq hjobs
    have hexec : exec (.liveBlockWritten k) s = .next (announce s ((u.finishReturn l).kickSlot k)) := by
      rw [← hdone]
      show execLiveBlockWritten k s = _
      rw [execLiveBlockWritten, State.slotWrite, hphase, hjobs]
      exact if_pos (working_of hworking)
    have hctx : u.ctxs[k].slotPhase = none := congrArg Ctx.slotPhase (modAt_get_self s.ctxs k fun c =>
      { c with generation := c.generation + 2, jobs := rest, slotPhase := none })
    refine ⟨_, u, u.kickSlot k, hexec, s.stores_store _ _, rfl, startsNext_kickSlot hctx (slotHeld_of_free hfree), ?_⟩
    show announce s ((u.finishReturn l).kickSlot k) = _
    rewrite [finishReturn_eq, kickSlot_outside, announce_eq, State.kickSlot_notices, State.kickSlot_lanes]
    rfl

end Sys2Proof.Machine
end

section
/-!
PROOFS. The registers: the enables, the mode and the notices, the fields of ENGINE_STATE and what its read clears, the writes of
each register and the parts of a CONTROL write, and probe transactions. They settle O11, O16, O17, O18 and O19.
-/

namespace Sys2Proof.Machine

/-- Settles O11. -/
theorem enablesModeAndNotices : Obligations.EnablesModeAndNotices := by
  refine ⟨fun mask value each s => ⟨⟨announce s (s.enablesPart mask value), rfl, rfl, rfl⟩, rfl⟩,
    fun hi bits s => ⟨s.noticeWrite hi bits, rfl, by rw [State.noticeWrite], fun l => ?_⟩⟩
  show (mapAll s.notices _)[l.val] = _
  rewrite [mapAll_get]
  rfl

/-! ### ENGINE_STATE -/

section

variable {s : State}

theorem countWhere_le {α : Type} {n : Nat} (v : Vector α n) (p : α → Bool) : countWhere v p ≤ n :=
  List.countP_le_length.trans_eq v.length_toList

theorem any_laneFlags (en : Enables) (n : LaneNotice) : ((laneFlags en n).any fun p => p.1 && p.2) = true ↔
    en.handback = true ∧ n.handback = true ∨ en.close = true ∧ n.close = true ∨ en.alarm = true ∧ n.alarm = true ∨
      en.fault = true ∧ n.fault = true := by
  simp [laneFlags]

/-- PEND, flag by flag. -/
theorem pend_iff : s.pend = true ↔ (∃ l : LaneId, s.control.ien.handback = true ∧ s.notices[l].handback = true ∨
      s.control.ien.close = true ∧ s.notices[l].close = true ∨ s.control.ien.alarm = true ∧ s.notices[l].alarm = true ∨
      s.control.ien.fault = true ∧ s.notices[l].fault = true) ∨
    s.control.ien.engine = true ∧ (s.flags.drained = true ∨ s.flags.engine = true) := by
  have hlanes : ((s.notices.toList.flatMap (laneFlags s.control.ien)).any fun p => p.1 && p.2) =
      s.notices.toList.any fun n => (laneFlags s.control.ien n).any fun p => p.1 && p.2 := List.any_flatMap
  unfold State.pend State.flagList
  rw [List.any_append, hlanes, Bool.or_eq_true, any_toList]
  refine or_congr (exists_congr fun l => any_laneFlags _ _) ?_
  simp only [List.any_cons, List.any_nil, Bool.or_false, Bool.or_eq_true, Bool.and_eq_true, and_or_left]

theorem runCode_lt (r : RunState) : r.code < 4 := by cases r <;> decide

theorem faultCode_lt (c : FaultCode) : c.code < 5 := by cases c <;> decide

/-- No field of ENGINE_STATE reaches into the next. -/
theorem engineValue_toNat : s.engineValue.toNat = s.engine.run.code + 2 ^ 4 * s.engine.fault.code + 2 ^ 8 * s.pend.toNat +
    2 ^ 9 * s.flags.refused.toNat + 2 ^ 10 * s.flags.drained.toNat + 2 ^ 11 * s.flags.engine.toNat +
    2 ^ 12 * s.freeContexts + 2 ^ 20 * s.freeLots + 2 ^ 24 * s.validEntries ∧
    s.freeContexts ≤ 24 ∧ s.freeLots ≤ 8 ∧ s.validEntries ≤ 8 := by
  have hctxs : s.freeContexts ≤ 24 := countWhere_le s.ctxs _
  have hlots : s.freeLots ≤ 8 := countWhere_le s.lots _
  have hentries : s.validEntries ≤ 8 := countWhere_le s.cache _
  refine ⟨?_, hctxs, hlots, hentries⟩
  have hrun := runCode_lt s.engine.run
  have hfault := faultCode_lt s.engine.fault
  have hpend := s.pend.toNat_le
  have hrefused := s.flags.refused.toNat_le
  have hdrained := s.flags.drained.toNat_le
  have hengine := s.flags.engine.toNat_le
  unfold State.engineValue num
  rw [BitVec.toNat_ofNat]
  exact Nat.mod_eq_of_lt (by omega)

end

/-- Settles O16. -/
theorem engineStateReadClears : Obligations.EngineStateReadClears := by
  intro first bytes s v
  obtain ⟨hvalue, hctxs, hlots, hentries⟩ := engineValue_toNat (s := s)
  have hv : v.toNat = s.engineValue.toNat := rfl
  have hrun := runCode_lt s.engine.run
  have hfault := faultCode_lt s.engine.fault
  have hpend := s.pend.toNat_le
  have hrefused := s.flags.refused.toNat_le
  have hdrained := s.flags.drained.toNat_le
  have hengine := s.flags.engine.toNat_le
  refine ⟨⟨_, rfl, rfl, fun hbytes => ?_⟩, by omega, by omega, ?_, by omega, by omega, by omega, by omega, by omega, by omega⟩
  · show (num (v.toNat / 256 ^ first.val % 256 ^ bytes)).toNat = _
    unfold num
    rw [BitVec.toNat_ofNat]
    have hpow : 256 ^ bytes ≤ 256 ^ 4 := Nat.pow_le_pow_right (by omega) hbytes
    exact Nat.mod_eq_of_lt ((Nat.mod_lt _ (Nat.pow_pos (by omega))).trans_le hpow)
  · have hfield : v.toNat / 2 ^ 8 % 2 = s.pend.toNat := by omega
    rw [hfield, Bool.toNat_eq_one]
    exact pend_iff

/-! ### Register writes -/

section

variable {s : State}

theorem scanNowPart_quiet (s : State) : s.Quiet s.scanNowPart := by
  have hbase := s.scanNowPart_base
  have hcontrol : s.scanNowPart.control = s.control := congrArg Base.control hbase
  have hflags : s.scanNowPart.flags = s.flags := congrArg Base.flags hbase
  exact .of_eq (congrArg Base.messages hbase) (by rw [hcontrol]) s.scanNowPart_notices (by rw [hflags]) (by rw [hflags])

/-- A full register write that sets no flag. -/
theorem exec_registerWrite {offset : Nat} {v : Word} {t : State} (hwritten : s.registerWritten offset v = t)
    (hquiet : s.Quiet t) : exec (.registerWrite offset 4 v) s = .next t := by
  show Host.Outcome.next (announce s (s.registerWritten offset v)) = _
  rw [hwritten, hquiet.announce_eq]

theorem probeAddr_quiet (s : State) (word : BitVec 11) (index : BitVec 5) (region : BitVec 3) (isWrite : Bool) :
    s.Quiet (s.probeAddr word index region isWrite) := by
  unfold State.probeAddr
  split
  · exact .of_eq rfl rfl rfl rfl rfl
  · exact .of_eq rfl rfl rfl rfl rfl

theorem commonBasePart_quiet (s : State) (v : Word) : s.Quiet (s.commonBasePart v) := by
  unfold State.commonBasePart
  split
  · exact .of_eq rfl rfl rfl rfl rfl
  · exact .of_eq rfl rfl rfl rfl rfl

theorem getLsbD_of_small {v : Word} (h : v.toNat < 65536) (n : Nat) : v.getLsbD (16 + n) = false :=
  Nat.testBit_lt_two_pow (h.trans_le (Nat.pow_le_pow_right (n := 2) Nat.two_pos (Nat.le_add_right 16 n)))

theorem enablesMask_of_small {v : Word} (h : v.toNat < 65536) : v.extractLsb' 20 5 = 0 := by
  refine BitVec.eq_of_toNat_eq ?_
  rw [BitVec.extractLsb'_toNat, Nat.shiftRight_eq_div_pow, Nat.div_eq_of_lt (by omega : v.toNat < 2 ^ 20)]
  rfl

/-- A CONTROL write with no mask bit set. -/
theorem controlWrite_none {v : Word} (h : v.toNat < 65536) : s.controlWrite v = s := by
  simp only [State.controlWrite, getLsbD_of_small h, enablesMask_of_small h, enablesPart_none, underMask, Bool.false_and,
    Bool.false_eq_true, if_false]

/-- The CONTROL write that selects RUN, and FLUSH_RECIPES and SCAN_NOW as told. -/
def controlWord (r f n : Bool) : Word := BitVec.ofNat 32 (2 ^ 16 + r.toNat + 524296 * f.toNat + 131074 * n.toNat)

theorem controlWord_parts : ∀ r f n : Bool, let w := controlWord r f n
    (w.getLsbD (16 + 2) && w.getLsbD 2) = false ∧ w.getLsbD (16 + 0) = true ∧ w.getLsbD 0 = r ∧
      (w.getLsbD (16 + 3) && w.getLsbD 3) = f ∧ (w.getLsbD (16 + 1) && w.getLsbD 1) = n ∧
      w.extractLsb' 20 5 = 0 ∧ w.getLsbD (16 + 9) = false := by decide

/-- The FLUSH_RECIPES part, when selected. -/
def State.flushIf (s : State) (f : Bool) : State := if f = true then s.flushPart else s

/-- The SCAN_NOW part, when selected. -/
def State.scanIf (s : State) (n : Bool) : State := if n = true then s.scanNowPart else s

theorem controlWrite_parts (s : State) (r f n : Bool) :
    s.controlWrite (controlWord r f n) = ((s.runPart r).flushIf f).scanIf n := by
  obtain ⟨hclear, hrun, hvalue, hflush, hscan, henables, hmode⟩ := controlWord_parts r f n
  simp only [State.controlWrite, hclear, hrun, hvalue, hflush, hscan, henables, hmode, enablesPart_none, underMask, if_true,
    Bool.false_eq_true, if_false]
  rfl

theorem flushIf_quiet (s : State) (f : Bool) : s.Quiet (s.flushIf f) := by
  cases f
  · exact .refl s
  · exact s.flushPart_quiet

theorem scanIf_quiet (s : State) (n : Bool) : s.Quiet (s.scanIf n) := by
  cases n
  · exact .refl s
  · exact scanNowPart_quiet s

theorem code_of_word {v : Word} {code : CmdCode} (h : v.toNat / 256 % 8 = code.toNat) : v.extractLsb' 8 3 = code :=
  BitVec.eq_of_toNat_eq (by rw [BitVec.extractLsb'_toNat, Nat.shiftRight_eq_div_pow]; exact h)

end

/-- Settles O17. -/
theorem registerAndControlWrites : Obligations.RegisterAndControlWrites := by
  refine ⟨fun v s => ⟨fun offset bytes hoffset hbytes => ?_, fun offset hoffset => ?_, ?_, ?_, ?_, ?_, fun hread => ?_,
    fun hwrite => ?_, ?_, fun hsmall => ?_⟩, fun s r f n => ?_⟩
  · exact (if_pos hbytes).trans (congrArg Host.Outcome.next (if_pos hoffset))
  · refine exec_registerWrite ?_ (.refl s)
    unfold State.registerWritten
    rw [if_neg (by omega), if_neg (by omega), if_neg (by omega), if_neg (by omega), if_neg (by omega), if_neg (by omega),
      if_neg (by omega)]
  · exact exec_registerWrite rfl (.of_eq rfl rfl rfl rfl rfl)
  · exact exec_registerWrite rfl (commonBasePart_quiet s v)
  · exact exec_registerWrite rfl (s.noticeWrite_quiet false v)
  · exact exec_registerWrite rfl (s.noticeWrite_quiet true v)
  · refine exec_registerWrite ?_ (probeAddr_quiet s _ _ _ false)
    rw [← hread]
    rfl
  · refine exec_registerWrite ?_ (probeAddr_quiet s _ _ _ true)
    rw [← hwrite]
    rfl
  · intro l code
    have hdecided {c : CmdCode} (hcode : code = c.toNat) : s.registerWritten 0x08 v = s.laneCommand c l := by
      rw [← code_of_word hcode]
      rfl
    refine ⟨fun h => ?_, fun h => ?_, fun h => ?_, fun h => ?_, fun h => ?_⟩
    · exact exec_registerWrite (hdecided h) (s.laneCommand_quiet (.inl rfl) l)
    · exact exec_registerWrite (hdecided h) (s.laneCommand_quiet (.inr (.inl rfl)) l)
    · exact exec_registerWrite (hdecided h) (s.laneCommand_quiet (.inr (.inr (.inl rfl))) l)
    · exact exec_registerWrite (hdecided h) (s.laneCommand_quiet (.inr (.inr (.inr rfl))) l)
    · show Host.Outcome.next (announce s (s.registerWritten 0x08 v)) = .next (announce s (s.laneCommand cmdRetire l))
      rw [hdecided (c := cmdRetire) h]
  · exact exec_registerWrite (controlWrite_none hsmall) (.refl s)
  · refine ⟨s.runPart r, (s.runPart r).flushIf f, ((s.runPart r).flushIf f).scanIf n, rfl, ?_, ?_, ?_, ?_, ?_⟩
    · rintro rfl
      rfl
    · rintro rfl
      rfl
    · rintro rfl
      rfl
    · rintro rfl
      rfl
    · exact exec_registerWrite (controlWrite_parts s r f n)
        (((s.runPart_quiet r).trans (flushIf_quiet _ f)).trans (scanIf_quiet _ n))

/-! ### Probe transactions -/

section

variable {s : State}

/-- No field of PROBE_ADDR reaches into the next. -/
theorem probeAddrValue_toNat (s : State) : s.probeAddrValue.toNat = s.probe.word.toNat + 2 ^ 11 * s.probe.index.toNat +
    2 ^ 16 * s.probe.region.toNat + 2 ^ 24 * s.probe.isWrite.toNat + 2 ^ 30 * s.probe.err.toNat +
    2 ^ 31 * s.probe.busy.toNat := by
  have hword := s.probe.word.isLt
  have hindex := s.probe.index.isLt
  have hregion := s.probe.region.isLt
  have hwrite := s.probe.isWrite.toNat_le
  have herr := s.probe.err.toNat_le
  have hbusy := s.probe.busy.toNat_le
  unfold State.probeAddrValue num
  rw [BitVec.toNat_ofNat]
  exact Nat.mod_eq_of_lt (by omega)

/-- What a limit written to context `j` makes of the count that a fault would bring back to context `k`. -/
theorem limitUndo_eq (k j : CtxId) (v : Word) (u : Undo) : (if k = j then Undo.limitWritten v else id) u =
    if k.val = j.val ∧ v.toNat % 65536 ≠ 0 then { u with idleCount := 0 } else u := by
  by_cases hctx : k = j
  · rw [if_pos hctx, Undo.limitWritten]
    by_cases hzero : v.toNat % 65536 = 0
    · rw [if_pos hzero, if_neg (fun h => h.2 hzero)]
    · rw [if_neg hzero, if_pos ⟨congrArg Fin.val hctx, hzero⟩]
  · rw [if_neg hctx, if_neg (fun h => hctx (Fin.ext h.1))]
    rfl

theorem exec_probeWriteStore (hbusy : s.probe.busy = true) (hwrite : s.probe.isWrite = true) : exec .probeWriteStore s =
    match s.probeStore with
    | some t => .next { t with probe := s.probe.ended false }
    | none => .next { s with probe := s.probe.ended true } := if_pos ⟨hbusy, hwrite⟩

theorem probe_ended_false (p : Probe) : p.ended false = { p with busy := false } := by
  unfold Probe.ended
  rw [Bool.or_false]

theorem probe_ended_true (p : Probe) : p.ended true = { p with busy := false, err := true } := by
  unfold Probe.ended
  rw [Bool.or_true]

theorem probeStore_limit (hregion : s.probe.region.toNat = 1) (hword : s.probe.word.toNat = 15)
    (hindex : s.probe.index.toNat < 24) : s.probeStore =
      if s.ctxs[s.probe.index.toNat].state = .opened then some (s.writeLimit ⟨s.probe.index.toNat, hindex⟩ s.probe.store)
      else none :=
  (if_pos ⟨hregion, hword⟩).trans (dif_pos hindex)

theorem probeStore_priority (hregion : s.probe.region.toNat = 2) (hword : s.probe.word.toNat = 9)
    (hindex : s.probe.index.toNat < 16) (hstore : s.probe.store.toNat < 4) : s.probeStore =
      some (s.modLane ⟨s.probe.index.toNat, hindex⟩ fun n => { n with priority := ⟨s.probe.store.toNat, hstore⟩ }) :=
  ((if_neg (by omega)).trans (if_pos ⟨hregion, hword⟩)).trans (dif_pos ⟨hindex, hstore⟩)

/-- Every target but the two writable ones refuses the store. -/
theorem probeStore_none
    (hctx : s.probe.region.toNat = 1 → s.probe.word.toNat = 15 → ∀ h : s.probe.index.toNat < 24,
      s.ctxs[s.probe.index.toNat].state ≠ .opened)
    (hlane : s.probe.region.toNat = 2 → s.probe.word.toNat = 9 → s.probe.index.toNat < 16 → 4 ≤ s.probe.store.toNat) :
    s.probeStore = none := by
  unfold State.probeStore
  dsimp only
  split_ifs with hlimit hindex hopen hpriority hwritable
  · exact absurd hopen (hctx hlimit.1 hlimit.2 hindex)
  · rfl
  · rfl
  · exact absurd (hlane hpriority.1 hpriority.2 hwritable.1) (by omega)
  · rfl
  · rfl

end

/-- Settles O18. -/
theorem probeTransactions : Obligations.ProbeTransactions := by
  refine ⟨fun word index region s => ⟨fun hbusy => ⟨?_, ?_⟩, fun hfree => ⟨?_, ?_⟩, ?_⟩, fun s hbusy hwrite => ?_⟩
  · exact congrArg Host.Outcome.next (if_pos hbusy)
  · exact congrArg Host.Outcome.next (if_pos hbusy)
  · exact congrArg Host.Outcome.next (if_neg (Bool.eq_false_iff.1 hfree))
  · exact congrArg Host.Outcome.next (if_neg (Bool.eq_false_iff.1 hfree))
  · intro v
    have hv : v = _ := probeAddrValue_toNat s
    have hword := s.probe.word.isLt
    have hindex := s.probe.index.isLt
    have hregion := s.probe.region.isLt
    have hwrite := s.probe.isWrite.toNat_le
    have herr := s.probe.err.toNat_le
    have hbusy := s.probe.busy.toNat_le
    refine ⟨?_, ?_, ?_, ?_, ?_, ?_⟩
    all_goals omega
  · intro r i n limit
    have hexec := exec_probeWriteStore hbusy hwrite
    refine ⟨fun h hr hn hopen => ?_, fun h hstore hr hn => ?_, fun hctx hlane => ?_⟩
    · have hlimit := (probeStore_limit hr hn h).trans (if_pos hopen)
      rw [hlimit, probe_ended_false] at hexec
      refine ⟨_, hexec, rfl, fun m k u hundo => ?_, fun hnone => modUndo_none hnone _⟩
      refine (modUndo_of hundo _).trans (congrArg (fun u => some { m with undo := some u }) ?_)
      exact limitUndo_eq k ⟨i, h⟩ s.probe.store u
    · have hpriority := probeStore_priority hr hn h hstore
      rw [hpriority, probe_ended_false] at hexec
      exact hexec
    · rw [probeStore_none hctx hlane, probe_ended_true] at hexec
      exact hexec

/-! ### Words of packed bits, bytes and cells -/

theorem packBits_lt : ∀ bs : List Bool, packBits bs < 2 ^ bs.length
  | [] => Nat.one_pos
  | b :: bs => by
    have hb := b.toNat_le
    have hbs := packBits_lt bs
    rw [packBits, List.length_cons, pow_succ]
    omega

theorem packBits_testBit : ∀ (bs : List Bool) (j : Nat), (packBits bs).testBit j = bs.getD j false
  | [], j => Nat.zero_testBit j
  | b :: bs, 0 => by
    rw [packBits, Nat.testBit_zero, Nat.add_mul_mod_self_left]
    cases b <;> rfl
  | b :: bs, j + 1 => by
    have hb := b.toNat_le
    have hhalf : (b.toNat + 2 * packBits bs) / 2 = packBits bs := by omega
    rw [packBits, Nat.testBit_succ, hhalf, packBits_testBit bs j, List.getD_cons_succ]

theorem num_packBits_bit (bs : List Bool) {j : Nat} (hj : j < 32) : (num (packBits bs)).getLsbD j = bs.getD j false := by
  rw [num, BitVec.getLsbD_ofNat, packBits_testBit, decide_eq_true hj, Bool.true_and]

theorem toList_get {α : Type} {n : Nat} (v : Vector α n) (i : Fin n) : v.toList[i.val]? = some v[i] := by
  rw [List.getElem?_eq_getElem (by simp), Vector.getElem_toList]
  rfl

theorem toList_getD {α : Type} {n : Nat} (v : Vector α n) (i : Fin n) (d : α) : v.toList.getD i.val d = v[i] := by
  rw [List.getD_eq_getElem?_getD, toList_get]
  rfl

theorem bitmapWord_bit (v : Vector Bool 512) (y : RowId) : (bitmapWord v (y.val / 32)).getLsbD (y.val % 32) = v[y] := by
  have hy := y.isLt
  have hj : y.val % 32 < 32 := Nat.mod_lt _ (by omega)
  have hsplit : 32 * (y.val / 32) + y.val % 32 = y.val := by omega
  rw [bitmapWord, num_packBits_bit _ hj, List.getD_eq_getElem?_getD, List.getElem?_take_of_lt hj, List.getElem?_drop, hsplit,
    toList_get]
  rfl

/-- A byte of a word of a byte area. -/
theorem wordIn_byte (bs : List Byte) (n : Nat) {j : Nat} (hj : j < 4) :
    (wordIn bs n).extractLsb' (8 * j) 8 = bs.getD (4 * n + j) 0 := by
  have h0 := (listSrc bs (4 * n)).isLt
  have h1 := (listSrc bs (4 * n + 1)).isLt
  have h2 := (listSrc bs (4 * n + 2)).isLt
  have h3 := (listSrc bs (4 * n + 3)).isLt
  show _ = listSrc bs (4 * n + j)
  refine BitVec.eq_of_toNat_eq ?_
  rw [BitVec.extractLsb'_toNat, wordIn, num, BitVec.toNat_ofNat, get32_bytes, Nat.shiftRight_eq_div_pow]
  obtain rfl | rfl | rfl | rfl : j = 0 ∨ j = 1 ∨ j = 2 ∨ j = 3 := by omega
  · show _ = (listSrc bs (4 * n)).toNat
    omega
  all_goals omega

theorem halfword_lt (c : MapCell) : c.halfword < 2 ^ 14 := by
  have hcode := c.code.isLt
  have htouches := c.touches.isLt
  have hsite := c.site.isLt
  have hstate : c.state.code < 4 := by cases c.state <;> decide
  unfold MapCell.halfword
  omega

theorem cellsWord_halves (cells : List MapCell) (n : Nat) :
    (cellsWord cells n).toNat % 65536 = (cells.getD (2 * n) outsideCell).halfword ∧
      (cellsWord cells n).toNat / 65536 = (cells.getD (2 * n + 1) outsideCell).halfword := by
  have hlow := halfword_lt (cells.getD (2 * n) outsideCell)
  have hhigh := halfword_lt (cells.getD (2 * n + 1) outsideCell)
  rw [cellsWord, num, BitVec.toNat_ofNat]
  omega

theorem flag_eq (b : Bool) : flag b = if b = true then 1 else 0 := by cases b <;> rfl

/-! ### The words of Table 10-9 -/

section

variable (c : Ctx)

theorem ctxWord_active {j : Nat} (hj : j < 4) : ctxWord c (21 + j) = some (wordIn c.active.bytes j) := by
  unfold ctxWord
  rw [if_neg (by omega), if_pos (by omega), Nat.add_sub_cancel_left]

theorem ctxWord_latched {j : Nat} (hj : j < 4) : ctxWord c (25 + j) = some (wordIn c.latched.bytes j) := by
  unfold ctxWord
  rw [if_neg (by omega), if_neg (by omega), if_pos (by omega), Nat.add_sub_cancel_left]

theorem ctxWord_bins (b : BinCode) : ctxWord c (32 + b.val) = some (int c.bins[b]) := by
  unfold ctxWord
  rw [if_neg (by omega), if_neg (by omega), if_neg (by omega), if_pos (by omega), Nat.add_sub_cancel_left, toList_get]
  rfl

theorem ctxWord_siteTested (p : SiteId) : ctxWord c (96 + p.val) = some (num c.siteTested[p]) := by
  unfold ctxWord
  rw [if_neg (by omega), if_neg (by omega), if_neg (by omega), if_neg (by omega), if_pos (by omega), Nat.add_sub_cancel_left,
    toList_get]
  rfl

theorem ctxWord_sitePass (p : SiteId) : ctxWord c (112 + p.val) = some (num c.sitePass[p]) := by
  unfold ctxWord
  rw [if_neg (by omega), if_neg (by omega), if_neg (by omega), if_neg (by omega), if_neg (by omega), if_pos (by omega),
    Nat.add_sub_cancel_left, toList_get]
  rfl

theorem ctxWord_run (p : SiteId) : ctxWord c (128 + p.val) = some (num c.run[p]) := by
  unfold ctxWord
  rw [if_neg (by omega), if_neg (by omega), if_neg (by omega), if_neg (by omega), if_neg (by omega), if_neg (by omega),
    if_pos (by omega), Nat.add_sub_cancel_left, toList_get]
  rfl

theorem ctxWord_rowsDone {j : Nat} (hj : j < 16) : ctxWord c (144 + j) = some (bitmapWord c.rowsDone j) := by
  unfold ctxWord
  rw [if_neg (by omega), if_neg (by omega), if_neg (by omega), if_neg (by omega), if_neg (by omega), if_neg (by omega),
    if_neg (by omega), if_pos (by omega), Nat.add_sub_cancel_left]

theorem ctxWord_cells {j : Nat} (hj : j < 256) : ctxWord c (160 + j) = some (cellsWord c.cells j) := by
  unfold ctxWord
  rw [if_neg (by omega), if_neg (by omega), if_neg (by omega), if_neg (by omega), if_neg (by omega), if_neg (by omega),
    if_neg (by omega), if_neg (by omega), if_pos (by omega), Nat.add_sub_cancel_left]

theorem ctxWord_winRow_none (h : c.winRow = none) : ctxWord c 19 = some 0xFFFFFFFF := by
  unfold ctxWord
  rw [if_pos (by omega), h]
  rfl

theorem ctxWord_winRow_some {y : RowId} (h : c.winRow = some y) : ctxWord c 19 = some (num y.val) := by
  unfold ctxWord
  rw [if_pos (by omega), h]
  rfl

theorem ctxWord_none {n : Nat} (h : 29 ≤ n ∧ n < 32 ∨ 416 ≤ n) : ctxWord c n = none := by
  unfold ctxWord
  rw [if_neg (by omega), if_neg (by omega), if_neg (by omega), if_neg (by omega), if_neg (by omega), if_neg (by omega),
    if_neg (by omega), if_neg (by omega), if_neg (by omega)]

end

section

variable {l : Lane}

theorem laneWord_unserved (h : l.inService = none) {n : Nat} (hn : 3 ≤ n ∧ n ≤ 5) : laneWord l n = some 0 := by
  unfold laneWord
  rw [h]
  obtain rfl | rfl | rfl : n = 3 ∨ n = 4 ∨ n = 5 := by omega
  · rfl
  · rfl
  · rfl

theorem laneWord_served {v : InService} (h : l.inService = some v) : laneWord l 3 = some (num (v.half.code + 1)) ∧
    laneWord l 4 = some (num v.next) ∧ laneWord l 5 = some (num v.count) := by
  unfold laneWord
  rw [h]
  exact ⟨rfl, rfl, rfl⟩

theorem laneWord_unbound (h : l.ctx = none) : laneWord l 7 = some 0xFFFFFFFF := by
  unfold laneWord
  rw [h]
  rfl

theorem laneWord_bound {k : CtxId} (h : l.ctx = some k) : laneWord l 7 = some (num k.val) := by
  unfold laneWord
  rw [h]
  rfl

end

theorem halfCode_eq (h : Half) : h.code + 1 = if h = .a then 1 else 2 := by cases h <;> rfl

theorem expectedWord_eq (h : Half) : num h.code = if decide (h = .b) = true then 1 else 0 := by cases h <;> rfl

theorem laneWord_none (l : Lane) {n : Nat} (h : 13 ≤ n) : laneWord l n = none := List.getElem?_eq_none h

theorem entryWord_copy (c : CacheEntry) {j : Nat} (hj : j < 1024) : entryWord c (64 + j) = some (wordIn c.copy.image j) := by
  unfold entryWord
  rw [if_neg (by omega), if_pos (by omega), Nat.add_sub_cancel_left]

theorem entryWord_none (c : CacheEntry) {n : Nat} (h : 11 ≤ n ∧ n < 64 ∨ 1088 ≤ n) : entryWord c n = none := by
  unfold entryWord
  rw [if_neg (by omega), if_neg (by omega)]

theorem lotWord_bins (t : Lot) (b : BinCode) : lotWord t (16 + b.val) = some (int t.bins[b]) := by
  unfold lotWord
  rw [if_neg (by omega), if_pos (by omega), Nat.add_sub_cancel_left, toList_get]
  rfl

theorem lotWord_none (t : Lot) {n : Nat} (h : 12 ≤ n ∧ n < 16 ∨ 80 ≤ n) : lotWord t n = none := by
  unfold lotWord
  rw [if_neg (by omega), if_neg (by omega)]

section

variable {s : State}

theorem queueWord_item {j : Nat} (hj : j < 32) : s.queueWord (2 + j) = some ((s.closeQ[j]?).elim 0 s.itemWord) := by
  unfold State.queueWord
  rw [if_neg (by omega), if_neg (by omega), if_pos (by omega), Nat.add_sub_cancel_left]

theorem queueWord_none {n : Nat} (h : 34 ≤ n) : s.queueWord n = none := by
  unfold State.queueWord
  rw [if_neg (by omega), if_neg (by omega), if_neg (by omega)]

/-- The word of a table's line, or none beyond the table. -/
theorem tableWord_some {α : Type} {n : Nat} (v : Vector α n) (f : α → Option Word) {i : Nat} (h : i < n) :
    (v.toList[i]?).bind f = f v[i] := by
  have hget := toList_get v ⟨i, h⟩
  dsimp only at hget
  rw [hget]
  rfl

theorem tableWord_none {α : Type} {n : Nat} (v : Vector α n) (f : α → Option Word) {i : Nat}
    (h : n ≤ i ∨ ∀ x, f x = none) : (v.toList[i]?).bind f = none := by
  rcases h with h | h
  · rw [List.getElem?_eq_none (by simpa using h)]
    rfl
  · exact Option.bind_eq_none_iff.2 fun x _ => h x

theorem probeWord_lastUse (n : Nat) : s.probeWord 3 8 n = (s.lastUse[n]?).map fun e => num e.val := rfl

theorem probeWord_entry {i : Nat} (h : i ≠ 8) (n : Nat) : s.probeWord 3 i n = (s.cache.toList[i]?).bind (entryWord · n) :=
  if_neg h

theorem probeWord_queue (n : Nat) : s.probeWord 4 8 n = s.queueWord n := rfl

theorem probeWord_lot {i : Nat} (h : i ≠ 8) (n : Nat) : s.probeWord 4 i n = (s.lots.toList[i]?).bind (lotWord · n) := if_neg h

theorem probeWord_none {r : Nat} (h : r = 0 ∨ 4 < r) (i n : Nat) : s.probeWord r i n = none := by
  unfold State.probeWord
  rw [if_neg (by omega), if_neg (by omega), if_neg (by omega), if_neg (by omega)]

/-- Every address at which no word of Table 10-9 lies. -/
theorem probeWord_undefined {r i n : Nat} (h : r = 0 ∨ 4 < r ∨ r = 1 ∧ (24 ≤ i ∨ 29 ≤ n ∧ n < 32 ∨ 416 ≤ n) ∨
    r = 2 ∧ (16 ≤ i ∨ 13 ≤ n) ∨
    r = 3 ∧ (8 < i ∨ i = 8 ∧ 8 ≤ n ∧ s.lastUse.length = 8 ∨ i < 8 ∧ (11 ≤ n ∧ n < 64 ∨ 1088 ≤ n)) ∨
    r = 4 ∧ (8 < i ∨ i = 8 ∧ 34 ≤ n ∨ i < 8 ∧ (12 ≤ n ∧ n < 16 ∨ 80 ≤ n))) : s.probeWord r i n = none := by
  rcases h with h | h | ⟨rfl, h⟩ | ⟨rfl, h⟩ | ⟨rfl, h | ⟨rfl, hn, hlength⟩ | ⟨hi, hn⟩⟩ | ⟨rfl, h | ⟨rfl, hn⟩ | ⟨hi, hn⟩⟩
  · exact probeWord_none (.inl h) i n
  · exact probeWord_none (.inr h) i n
  · exact tableWord_none s.ctxs _ (h.imp_right fun hn x => ctxWord_none x hn)
  · exact tableWord_none s.lanes _ (h.imp_right fun hn x => laneWord_none x hn)
  · exact (probeWord_entry (by omega) n).trans (tableWord_none s.cache _ (.inl h.le))
  · rw [probeWord_lastUse, List.getElem?_eq_none (hlength ▸ hn)]
    rfl
  · exact (probeWord_entry (by omega) n).trans (tableWord_none s.cache _ (.inr fun x => entryWord_none x hn))
  · exact (probeWord_lot (by omega) n).trans (tableWord_none s.lots _ (.inl h.le))
  · exact queueWord_none hn
  · exact (probeWord_lot (by omega) n).trans (tableWord_none s.lots _ (.inr fun x => lotWord_none x hn))

theorem exec_probeReadAnswer (hbusy : s.probe.busy = true) (hread : s.probe.isWrite = false) {w : Option Word}
    (hw : s.probeWord s.probe.region.toNat s.probe.index.toNat s.probe.word.toNat = w) : exec .probeReadAnswer s =
      .next { s with probe := { s.probe with busy := false, err := s.probe.err || w.isNone, data := w.getD 0 } } := by
  have hexec : exec .probeReadAnswer s =
      match s.probeWord s.probe.region.toNat s.probe.index.toNat s.probe.word.toNat with
      | some w => .next { s with probe := { s.probe.ended false with data := w } }
      | none => .next { s with probe := { s.probe.ended true with data := 0 } } := if_pos ⟨hbusy, hread⟩
  rw [hexec, hw]
  cases w <;> rfl

end

/-- Settles O19. -/
theorem probeReadAnswered : Obligations.ProbeReadAnswered := by
  intro s hbusy hread r i n
  let found : Option Word := s.probeWord r i n
  refine ⟨found.getD 0, found.isNone, exec_probeReadAnswer hbusy hread rfl, ?_⟩
  have is_of {w v : Word} {o : Option Word} (hfound : found = o) (ho : o = some w) (hv : w = v) :
      found.isNone = false ∧ found.getD 0 = v := by
    rw [hfound, ho]
    exact ⟨rfl, hv⟩
  refine ⟨fun h hr => ?_, fun h hr => ?_, fun h hr => ?_, fun e hr hi he => ?_, fun h hr => ?_, fun hr hi => ?_, fun h => ?_⟩
  · intro c
    have hctx : found = ctxWord c n := (congrArg (s.probeWord · i n) hr).trans (tableWord_some s.ctxs _ h)
    have word {k : Nat} {w v : Word} (hk : ctxWord c k = some w) (hv : w = v) (hn : n = k) :
        found.isNone = false ∧ found.getD 0 = v := is_of (hctx.trans (congrArg (ctxWord c) hn)) hk hv
    have area {k m : Nat} {bs : List Byte} (hk : ctxWord c k = some (wordIn bs m)) (hn : n = k) :
        found.isNone = false ∧ ∀ j < 4, (found.getD 0).extractLsb' (8 * j) 8 = bs.getD (4 * m + j) 0 := by
      obtain ⟨hnone, hword⟩ := word hk rfl hn
      exact ⟨hnone, fun j hj => by rw [hword]; exact wordIn_byte bs m hj⟩
    refine ⟨word rfl rfl, word rfl rfl, word rfl (flag_eq _), word rfl rfl, word rfl rfl, word rfl rfl, word rfl rfl,
      word rfl rfl, word rfl (flag_eq _), word rfl rfl, word rfl rfl, word rfl rfl, word rfl rfl, word rfl rfl, word rfl rfl,
      word rfl rfl, word rfl (flag_eq _), word rfl rfl, word rfl rfl, fun hn hrow => word (ctxWord_winRow_none c hrow) rfl hn,
      fun y hn hrow => word (ctxWord_winRow_some c hrow) rfl hn, word rfl (flag_eq _), fun j hj => ⟨?_, ?_⟩,
      fun b => word (ctxWord_bins c b) rfl, fun p => ⟨word (ctxWord_siteTested c p) rfl, word (ctxWord_sitePass c p) rfl,
        word (ctxWord_run c p) rfl⟩, fun y hn => ?_, fun j hj hn => ?_⟩
    · exact area (ctxWord_active c hj)
    · exact area (ctxWord_latched c hj)
    · have hy := y.isLt
      obtain ⟨hnone, hword⟩ := word (ctxWord_rowsDone c (by omega : y.val / 32 < 16)) rfl hn
      exact ⟨hnone, by rw [hword]; exact bitmapWord_bit c.rowsDone y⟩
    · obtain ⟨hnone, hword⟩ := word (ctxWord_cells c hj) rfl hn
      exact ⟨hnone, by rw [hword]; exact cellsWord_halves c.cells j⟩
  · intro l
    have hlane : found = laneWord l n := (congrArg (s.probeWord · i n) hr).trans (tableWord_some s.lanes _ h)
    have word {k : Nat} {w v : Word} (hk : laneWord l k = some w) (hv : w = v) (hn : n = k) :
        found.isNone = false ∧ found.getD 0 = v := is_of (hlane.trans (congrArg (laneWord l) hn)) hk hv
    refine ⟨word rfl rfl, word rfl (flag_eq _), word rfl (expectedWord_eq _),
      fun hhalf hlow hhigh => is_of hlane (laneWord_unserved hhalf ⟨hlow, hhigh⟩) rfl, fun v hhalf => ?_,
      word rfl (flag_eq _), fun hn hctx => word (laneWord_unbound hctx) rfl hn,
      fun k hn hctx => word (laneWord_bound hctx) rfl hn, word rfl rfl, word rfl rfl, word rfl rfl, word rfl rfl, word rfl rfl⟩
    obtain ⟨hhalf, hnext, hcount⟩ := laneWord_served hhalf
    exact ⟨word hhalf (congrArg num (halfCode_eq v.half)), word hnext rfl, word hcount rfl⟩
  · intro c
    have hentry : found = entryWord c n := ((congrArg (s.probeWord · i n) hr).trans (probeWord_entry (Nat.ne_of_lt h) n)).trans
      (tableWord_some s.cache _ h)
    have word {k : Nat} {w v : Word} (hk : entryWord c k = some w) (hv : w = v) (hn : n = k) :
        found.isNone = false ∧ found.getD 0 = v := is_of (hentry.trans (congrArg (entryWord c) hn)) hk hv
    refine ⟨word rfl rfl, word rfl rfl, word rfl rfl, word rfl (flag_eq _), word rfl (flag_eq _), word rfl (flag_eq _),
      word rfl rfl, fun l hn => ?_, word rfl rfl, word rfl rfl, word rfl (flag_eq _), fun j hj hn => ?_⟩
    · obtain ⟨hnone, hword⟩ := word (k := 7) (w := num (packBits c.waiters.toList)) rfl rfl hn
      have hl := l.isLt
      have hlt := packBits_lt c.waiters.toList
      rw [Vector.length_toList] at hlt
      refine ⟨hnone, ?_, ?_⟩
      · rw [hword, num_packBits_bit _ (by omega)]
        exact toList_getD c.waiters l false
      · rw [hword, num, BitVec.toNat_ofNat]
        omega
    · obtain ⟨hnone, hword⟩ := word (entryWord_copy c hj) rfl hn
      exact ⟨hnone, fun m hm => by rw [hword]; exact wordIn_byte c.copy.image j hm⟩
  · have hfound : found = (s.lastUse[n]?).map fun e => num e.val := by
      show s.probeWord r i n = _
      rw [hr, hi, probeWord_lastUse]
    exact is_of hfound (by rw [he]; rfl) rfl
  · intro t
    have hlot : found = lotWord t n := ((congrArg (s.probeWord · i n) hr).trans (probeWord_lot (Nat.ne_of_lt h) n)).trans
      (tableWord_some s.lots _ h)
    have word {k : Nat} {w v : Word} (hk : lotWord t k = some w) (hv : w = v) (hn : n = k) :
        found.isNone = false ∧ found.getD 0 = v := is_of (hlot.trans (congrArg (lotWord t) hn)) hk hv
    exact ⟨word rfl rfl, word rfl rfl, word rfl rfl, word rfl rfl, word rfl rfl, word rfl rfl, word rfl rfl,
      word rfl (flag_eq _), word rfl rfl, word rfl (flag_eq _), word rfl (flag_eq _), word rfl rfl,
      fun b => word (lotWord_bins t b) rfl⟩
  · have hqueue : found = s.queueWord n := by
      show s.probeWord r i n = _
      rw [hr, hi, probeWord_queue]
    have word {k : Nat} {w v : Word} (hk : s.queueWord k = some w) (hv : w = v) (hn : n = k) :
        found.isNone = false ∧ found.getD 0 = v := is_of (hqueue.trans (congrArg s.queueWord hn)) hk hv
    refine ⟨word rfl rfl, word rfl (flag_eq _), fun j hj hn => ⟨fun k hitem => ?_, fun i hitem => ?_, fun hlength => ?_⟩⟩
    · exact word (queueWord_item hj) (by rw [hitem]; rfl) hn
    · exact word (queueWord_item hj) (by rw [hitem]; rfl) hn
    · exact word (queueWord_item hj) (by rw [List.getElem?_eq_none hlength]; rfl) hn
  · have hfound : found = none := probeWord_undefined h
    rw [hfound]
    exact ⟨rfl, rfl⟩

end Sys2Proof.Machine
end

section
/-!
PROOFS. The idle timer: what a second event moves, and what an expiry does. They settle O20 and O21.
-/

namespace Sys2Proof.Machine

/-! ### Second events -/

section

variable {c : Ctx}

theorem secondPassed_other (h : c.state ≠ .opened) : c.secondPassed = c := if_neg h

theorem secondPassed_unlimited (h : c.state = .opened) (hlimit : c.idleLimit = 0) :
    c.secondPassed = { c with idleCount := min (c.idleCount + 1) 65535 } := (if_pos h).trans (if_pos hlimit)

theorem secondPassed_counts (h : c.state = .opened) (hlimit : c.idleLimit ≠ 0) (hcount : c.idleCount < c.idleLimit) :
    c.secondPassed = { c with
      idleCount := c.idleCount + 1, idleDue := c.idleDue || decide (c.idleCount + 1 = c.idleLimit) } :=
  ((if_pos h).trans (if_neg hlimit)).trans (if_pos hcount)

theorem secondPassed_full (h : c.state = .opened) (hlimit : c.idleLimit ≠ 0) (hcount : ¬ c.idleCount < c.idleLimit) :
    c.secondPassed = { c with idleDue := c.idleDue || !c.active.idle } :=
  ((if_pos h).trans (if_neg hlimit)).trans (if_neg hcount)

theorem secondPassed_idleCount (c : Ctx) : c.secondPassed.idleCount =
    if c.state ≠ .opened then c.idleCount
    else if c.idleLimit = 0 then min (c.idleCount + 1) 65535
    else if c.idleCount < c.idleLimit then c.idleCount + 1
    else c.idleCount := by
  by_cases hopen : c.state = .opened
  · rw [if_neg (not_not_intro hopen)]
    by_cases hlimit : c.idleLimit = 0
    · rw [if_pos hlimit, secondPassed_unlimited hopen hlimit]
    · rw [if_neg hlimit]
      by_cases hcount : c.idleCount < c.idleLimit
      · rw [if_pos hcount, secondPassed_counts hopen hlimit hcount]
      · rw [if_neg hcount, secondPassed_full hopen hlimit hcount]
  · rw [if_pos hopen, secondPassed_other hopen]

theorem secondPasses_ctx (s : State) (k : CtxId) : s.secondPasses.ctxs[k] = s.ctxs[k].secondPassed := by
  rw [State.secondPasses]
  show (mapAll s.ctxs _)[k.val] = _
  rw [mapAll_get]
  rfl

theorem secondPasses_merge (s : State) :
    s.secondPasses.merge = s.merge.map (Merge.modUndo fun k => Undo.secondPassed s.ctxs[k]) := by rw [State.secondPasses]

end

/-- Settles O20. -/
theorem secondEventMovesTimers : Obligations.SecondEventMovesTimers := by
  intro s
  refine ⟨fun hrun => if_neg hrun, fun hrun => ⟨s.secondPasses, if_pos hrun, by rw [State.secondPasses], fun m k u hundo => ?_,
    fun hnone => (secondPasses_merge s).trans (modUndo_none hnone _), fun k => ?_⟩⟩
  · intro c n
    have hcount : Undo.secondPassed s.ctxs[k] u = { u with idleCount := n } :=
      congrArg (fun i => { u with idleCount := i }) (secondPassed_idleCount { s.ctxs[k] with idleCount := u.idleCount })
    rw [secondPasses_merge, modUndo_of hundo, hcount]
  · intro c
    rw [secondPasses_ctx]
    refine ⟨secondPassed_other, fun hopen hlimit hcount => ?_, fun hopen hlimit hcount => ?_, fun hopen hcount => ?_,
      fun hopen hcount => ?_, fun hopen hlimit hcount hactive => ?_, fun hopen hlimit hcount hactive => ?_⟩
    · rw [secondPassed_unlimited hopen hlimit, min_eq_left (by omega)]
    · rw [secondPassed_unlimited hopen hlimit, min_eq_right (by omega)]
    · rw [secondPassed_counts hopen (by omega) (by omega), decide_eq_false (by omega), Bool.or_false]
    · rw [secondPassed_counts hopen (by omega) (by omega), decide_eq_true hcount, Bool.or_true, hcount]
    · rw [secondPassed_full hopen hlimit (by omega), hactive, Bool.not_false, Bool.or_true]
    · rw [secondPassed_full hopen hlimit (by omega), hactive, Bool.not_true, Bool.or_false]

/-! ### Expiries -/

section

variable {s : State} {k : CtxId}

theorem modCtx_get (s : State) (k : CtxId) (f : Ctx → Ctx) : (s.modCtx k f).ctxs[k] = f s.ctxs[k] := modAt_get_self s.ctxs k f

theorem modCtx_modCtx (s : State) (k : CtxId) (f g : Ctx → Ctx) :
    (s.modCtx k f).modCtx k g = s.modCtx k fun c => g (f c) := by
  unfold State.modCtx
  dsimp only
  rw [modAt_modAt]

theorem modCtx_recipeFor (s : State) (k : CtxId) {f : Ctx → Ctx} (hf : (f s.ctxs[k]).entry = s.ctxs[k].entry) :
    (s.modCtx k f).recipeFor k = s.recipeFor k := by
  have hentry : ((s.modCtx k f).ctxs[k]).entry = s.ctxs[k].entry := by rw [modCtx_get, hf]
  exact congrArg (fun e : EntryId => s.cache[e].copy) hentry

/-- An expiry that is taken: the context is OPEN, and its merge is over. -/
theorem exec_idleExpiry (hrun : s.engine.run = .running) (hopen : s.ctxs[k].state = .opened) (hdue : s.ctxs[k].idleDue = true) :
    exec (.idleExpiry k) s = if s.ctxs[k].inMerge then .next (s.expiryOver k)
      else .next (announce s ((s.expiryOver k).expire k)) := if_pos ⟨hrun, hopen, hdue⟩

/-- An expiry with autoclose, as one close of the context with its latched idle flag. -/
theorem autoclose_eq (s : State) (k : CtxId) : (s.expiryOver k).autoclose k =
    State.serve { State.rewrite { s with
        ctxs := modAt s.ctxs k fun c => { c with
          state := .closing, cause := .idle, bound := false, idleDue := false
          latched := { c.latched with idle := true } }
        lanes := modAt s.lanes s.ctxs[k].lane fun n => { n with ctx := none } } k .nothing with
      closeQ := s.closeQ ++ [.ctx k] } := by
  unfold State.autoclose State.expiryOver
  rw [modCtx_modCtx, closeContext_eq, modCtx_get]
  unfold State.modCtx
  dsimp only
  rw [modAt_modAt]

/-- The assertion of IDLE as one update. -/
theorem assertIdle_eq (s : State) (k : CtxId) : (s.expiryOver k).assertIdle k =
    (let on := (s.recipeFor k).assertMask.idle
     let u : State := { s with
       ctxs := modAt s.ctxs k fun c => { c with
         idleDue := false
         active := { c.active with idle := true }
         latched := { c.latched with idle := true } }
       notices := if on = true then modAt s.notices s.ctxs[k].lane fun n => { n with alarm := true } else s.notices
       lanes := if on = true ∧ (s.recipeFor k).holdMask.idle = true then
         modAt s.lanes s.ctxs[k].lane fun n => { n with hold := true } else s.lanes }
     if on = true then u.rewrite k .nothing else u) := by
  have henabled (r : Recipe) : [(⟨.idle, true⟩ : Event)].any (Event.enabled r) = r.assertMask.idle := Bool.or_false _
  have hholds (r : Recipe) : [(⟨.idle, true⟩ : Event)].any (Event.holds r) = true ↔
      r.assertMask.idle = true ∧ r.holdMask.idle = true := by
    rw [← Bool.and_eq_true]
    exact iff_of_eq (congrArg (· = true) (Bool.or_false _))
  have hrecipe : (s.expiryOver k).recipeFor k = s.recipeFor k := modCtx_recipeFor s k rfl
  have hctx : (s.expiryOver k).ctxs[k].lane = s.ctxs[k].lane := by
    unfold State.expiryOver
    rw [modCtx_get]
  unfold State.assertIdle
  dsimp only
  rw [hrecipe, hctx, raiseEvents_eq]
  simp only [henabled, hholds]
  unfold State.expiryOver
  rw [modCtx_modCtx]
  rfl

end

/-- Settles O21. -/
theorem idleExpiryActs : Obligations.IdleExpiryActs := by
  intro k s hrun hopen hdue r l
  have hexec := exec_idleExpiry hrun hopen hdue
  have hrecipe : (s.expiryOver k).recipeFor k = r := modCtx_recipeFor s k rfl
  have hexpire (hmerge : s.ctxs[k].inMerge = false) :
      exec (.idleExpiry k) s = .next (announce s ((s.expiryOver k).expire k)) := by
    rw [hexec, if_neg (by rw [hmerge]; exact nofun)]
  have hactive : (s.expiryOver k).ctxs[k].active = s.ctxs[k].active := by
    unfold State.expiryOver
    rw [modCtx_get]
  refine ⟨fun hmerge => ?_, fun hmerge hauto => ?_, fun hmerge hauto hidle => ?_, fun hmerge hauto hidle => ?_⟩
  · rw [hexec, if_pos hmerge]
    rfl
  · refine ⟨_, hexpire hmerge, ?_⟩
    rw [State.expire, hrecipe, if_pos hauto, autoclose_eq]
    rfl
  · rw [hexpire hmerge, State.expire, hrecipe, if_neg (by rw [hauto]; exact nofun), hactive, if_pos hidle]
    exact congrArg Host.Outcome.next (announce_quiet s _ rfl rfl rfl rfl)
  · refine ⟨_, hexpire hmerge, ?_⟩
    rw [State.expire, hrecipe, if_neg (by rw [hauto]; exact nofun), hactive, if_neg (by rw [hidle]; exact nofun), assertIdle_eq]
    rfl

end Sys2Proof.Machine
end

section
/-!
PROOFS. The Merge Engine: the grant, records that are refused, CLOSE, the sites of a TOUCHDOWN and its evaluation, ADJUST, row
operations, and the writes that end a record. They settle O26, O27, O28, O30, O31, O34, O35 and O36.
-/

namespace Sys2Proof.Machine

/-! ### The grant -/

section

variable {s : State}

theorem foldl_max_eq {α : Type} (f : α → Nat) {a : α} : ∀ (xs : List α) (p : Nat), p ≤ f a → (∀ x ∈ xs, f x ≤ f a) →
    (p = f a ∨ a ∈ xs) → xs.foldl (fun p x => max p (f x)) p = f a
  | [], _, _, _, h => h.elim id fun ha => absurd ha List.not_mem_nil
  | x :: xs, p, hp, hle, h => by
    have hx := hle x List.mem_cons_self
    refine foldl_max_eq f xs (max p (f x)) (max_le hp hx) (fun y hy => hle y (List.mem_cons_of_mem x hy)) ?_
    rcases h with h | h
    · exact .inl (by omega)
    · rcases List.mem_cons.1 h with rfl | h
      · exact .inl (by omega)
      · exact .inr h

theorem isCandidate_iff (hrun : s.engine.run = .running) (l : LaneId) : s.isCandidate l = true ↔
    s.lanes[l].state = .ready ∧ s.lanes[l].hold = false ∧ s.lanes[l].inService ≠ none ∧
      s.command.progress ≠ .retirePending l := by
  unfold State.isCandidate State.retirePending
  simp only [Bool.and_eq_true, decide_eq_true_eq, Bool.not_eq_true', decide_eq_false_iff_not, hrun, and_true,
    Option.isSome_iff_ne_none, and_assoc, ne_eq]

theorem granted_some {l : LaneId} (hl : s.isCandidate l = true) (hbest : ∀ l', s.isCandidate l' = true →
    s.lanes[l'].priority ≤ s.lanes[l].priority ∧ (s.lanes[l'].priority = s.lanes[l].priority → l ≤ l')) :
    s.granted = some l := by
  have htop : ((List.finRange 16).filter s.isCandidate).foldl (fun p l => max p s.lanes[l].priority.val) 0 =
      s.lanes[l].priority.val := by
    refine foldl_max_eq (fun l : LaneId => s.lanes[l].priority.val) (a := l) _ 0 (Nat.zero_le _) (fun l' hl' => ?_) (.inr ?_)
    · exact (hbest l' (List.mem_filter.1 hl').2).1
    · exact List.mem_filter.2 ⟨List.mem_finRange l, hl⟩
  unfold State.granted
  dsimp only
  rw [htop, List.find?_filter]
  refine find_first 16 _ l (by simp [hl]) fun j hj => ?_
  rw [decide_eq_false_iff_not]
  rintro ⟨hcandidate, heq⟩
  exact absurd ((hbest j hcandidate).2 (Fin.ext (of_decide_eq_true heq))) (not_le.2 hj)

theorem granted_none (h : ∀ l, ¬ s.isCandidate l = true) : s.granted = none := by
  have hnone : (List.finRange 16).filter s.isCandidate = [] := List.filter_eq_nil_iff.2 fun l _ => h l
  unfold State.granted
  rw [hnone]
  rfl

theorem grantLane_eq {l : LaneId} {v : InService} (h : s.lanes[l].inService = some v) : s.grantLane l = { s with
    merge := some ⟨l, v.half, v.next, [], [], s.lanes[l].ctx, .reading, none⟩
    ctxs := match s.lanes[l].ctx with
      | some k => modAt s.ctxs k fun c => { c with inMerge := true }
      | none => s.ctxs } := by
  unfold State.grantLane
  rw [h]
  dsimp only
  cases s.lanes[l].ctx <;> rfl

end

/-- Settles O26. -/
theorem grantChoosesCandidate : Obligations.GrantChoosesCandidate := by
  intro s l v hmerge hrun candidate
  have hcandidate (l : LaneId) : s.isCandidate l = true ↔ candidate l := isCandidate_iff hrun l
  refine ⟨fun hl hhalf hbest => ?_, fun hnone => ?_⟩
  · have hgranted := granted_some ((hcandidate l).2 hl) fun l' hl' => hbest l' ((hcandidate l').1 hl')
    show execGrant s = _
    rw [execGrant, hmerge, hgranted]
    dsimp only
    rewrite [grantLane_eq hhalf]
    rfl
  · have hgranted := granted_none fun l hl => hnone l ((hcandidate l).1 hl)
    show execGrant s = _
    rw [execGrant, hmerge, hgranted]

/-! ### Records that are refused -/

section

variable {s : State} {m : Merge} {bs : List Byte}

theorem exec_touchdown_unbound (h : s.reads m bs) (hkind : recKind bs = 2) (hctx : m.ctx = none) :
    exec .touchdown s = .next (s.dispose { m with bytes := bs } dNoWafer) := by
  show execTouchdown s = _
  rw [execTouchdown, recordRead_of h _ (decide_eq_true hkind)]
  dsimp only
  rw [hctx]

theorem exec_touchdown (h : s.reads m bs) (hkind : recKind bs = 2) {k : CtxId} (hctx : m.ctx = some k) :
    exec .touchdown s = match touchdownRefusal (s.recipeFor k) s.ctxs[k] bs with
      | some d => .next (s.dispose { m with bytes := bs } d)
      | none => .next (announce s (s.continueTouchdown { m with bytes := bs } k)) := by
  show execTouchdown s = _
  rw [execTouchdown, recordRead_of h _ (decide_eq_true hkind)]
  dsimp only
  rewrite [hctx]
  rfl

theorem exec_touchdown_refused (h : s.reads m bs) (hkind : recKind bs = 2) {k : CtxId} (hctx : m.ctx = some k) {d : Byte}
    (hd : touchdownRefusal (s.recipeFor k) s.ctxs[k] bs = some d) :
    exec .touchdown s = .next (s.dispose { m with bytes := bs } d) := by
  rw [exec_touchdown h hkind hctx, hd]

theorem touchdownRefusal_tag {r : Recipe} {c : Ctx} (h : recTag bs ≠ c.tag) : touchdownRefusal r c bs = some 0x11 := if_pos h

theorem touchdownRefusal_stale {r : Recipe} {c : Ctx} (h : recTag bs = c.tag) (hnumber : tdNumber bs ≤ c.lastTouch) :
    touchdownRefusal r c bs = some 0x12 := (if_neg (not_not_intro h)).trans (if_pos hnumber)

theorem present_iff (r : Recipe) (i : SiteId) : present r bs i = true ↔ tdMask bs i = true ∧ i.val < r.siteCount := by
  unfold present
  rw [Bool.and_eq_true, decide_eq_true_eq]

theorem anyPresent_iff (r : Recipe) : (List.finRange 16).any (present r bs) = true ↔
    ∃ i : SiteId, tdMask bs i = true ∧ i.val < r.siteCount := by
  simp only [List.any_eq_true, List.mem_finRange, true_and, present_iff]

theorem touchdownRefusal_empty {r : Recipe} {c : Ctx} (h : recTag bs = c.tag) (hnumber : c.lastTouch < tdNumber bs)
    (hmask : ∀ i : SiteId, tdMask bs i = true → r.siteCount ≤ i.val) : touchdownRefusal r c bs = some 0x14 := by
  have hnone : ¬ (List.finRange 16).any (present r bs) = true := by
    rw [anyPresent_iff]
    rintro ⟨i, hi, hlt⟩
    exact absurd (hmask i hi) (by omega)
  exact ((if_neg (not_not_intro h)).trans (if_neg (BitVec.not_le.2 hnumber))).trans (if_neg hnone)

theorem touchdownRefusal_none {r : Recipe} {c : Ctx} (h : recTag bs = c.tag) (hnumber : c.lastTouch < tdNumber bs)
    (hmask : ∃ i : SiteId, tdMask bs i = true ∧ i.val < r.siteCount) : touchdownRefusal r c bs = none :=
  ((if_neg (not_not_intro h)).trans (if_neg (BitVec.not_le.2 hnumber))).trans (if_pos ((anyPresent_iff r).2 hmask))

theorem endMerge_eq (s : State) (m : Merge) : s.endMerge m = { s with
    ctxs := match m.ctx with
      | some k => modAt s.ctxs k fun c => { c with inMerge := false }
      | none => s.ctxs
    merge := none } := by
  unfold State.endMerge
  cases m.ctx <;> rfl

end

/-- Settles O27. -/
theorem recordsRefused : Obligations.RecordsRefused := by
  refine ⟨fun s t m bs h => ⟨fun hkind => ⟨s.dispose { m with bytes := bs } dAccepted, ?_, rfl⟩,
    fun hkind => ⟨s.dispose { m with bytes := bs } dBadKind, ?_, rfl⟩, ?_, fun ht hrun => ?_⟩,
    fun s m bs h hkind => ⟨fun hctx => ⟨_, exec_touchdown_unbound h hkind hctx, rfl⟩, fun k hctx =>
      ⟨fun htag => ⟨_, exec_touchdown_refused h hkind hctx (touchdownRefusal_tag htag), rfl⟩,
        fun htag hnumber => ⟨_, exec_touchdown_refused h hkind hctx (touchdownRefusal_stale htag hnumber), rfl⟩,
        fun htag hnumber hmask =>
          ⟨_, exec_touchdown_refused h hkind hctx (touchdownRefusal_empty htag hnumber hmask), rfl⟩⟩⟩⟩
  · show execNop s = _
    rw [execNop, recordRead_of h _ (decide_eq_true hkind)]
  · have hbad : (decide (recKind bs = 0) || decide (6 < recKind bs)) = true := by
      rw [Bool.or_eq_true, decide_eq_true_eq, decide_eq_true_eq]
      omega
    show execBadKind s = _
    rw [execBadKind, recordRead_of h _ hbad]
  · obtain ⟨hworking, hmerge, hphase, -⟩ := h
    show execRecordReadError s = _
    rw [execRecordReadError, hmerge]
    exact if_pos ⟨working_of hworking, hphase⟩
  · subst ht
    let f : Merge := { m with phase := .faultedReturn }
    let w := State.store { s with merge := some f } ((s.lanes[m.lane]).halfAddr m.half) (returnedWord statusFaulted m.index)
    have hexec : exec .halfFaultedReturnWritten { s with merge := some f } = .next (announce { s with merge := some f }
        ((((w.modLane m.lane fun n => { n with inService := none }).laneFault m.lane .memLane).endMerge f).drainWork)) :=
      if_pos ⟨working_of (.inl hrun), rfl⟩
    have hdrain : (((w.modLane m.lane fun n => { n with inService := none }).laneFault m.lane .memLane).endMerge f).drainWork =
        ((w.modLane m.lane fun n => { n with inService := none }).laneFault m.lane .memLane).endMerge f := by
      rw [endMerge_eq]
      exact drainWork_running hrun
    rw [hdrain, endMerge_eq] at hexec
    refine ⟨_, hexec, ?_, s.stores_store _ _⟩
    rw [announce_eq]
    unfold State.laneFault State.setFault State.modLane
    dsimp only
    rewrite [modAt_modAt]
    rfl

/-! ### CLOSE -/

/-- Settles O28. -/
theorem closeRecord : Obligations.CloseRecord := by
  intro s m bs h hkind
  have hread := recordRead_of h (fun n => decide (n = kindClose)) (decide_eq_true hkind)
  have hbound {k : CtxId} (hctx : m.ctx = some k) : exec .close s =
      if recTag bs ≠ s.ctxs[k].tag then .next (s.dispose { m with bytes := bs } dWaferMismatch)
      else .next (announce s
        (State.closeContext { s with merge := some { m with bytes := bs, phase := .awaitLive none dAccepted } } k .record
          .merge)) := by
    show execClose s = _
    rw [execClose, hread]
    dsimp only
    rewrite [hctx]
    rfl
  refine ⟨fun hctx => ⟨s.dispose { m with bytes := bs } dNoWafer, ?_, rfl⟩,
    fun k hctx htag => ⟨s.dispose { m with bytes := bs } dWaferMismatch, ?_, rfl⟩, fun k hctx htag => ⟨_, (hbound hctx).trans (if_neg (not_not_intro htag)), ?_⟩⟩
  · show execClose s = _
    rw [execClose, hread]
    dsimp only
    rw [hctx]
  · rw [hbound hctx, if_pos htag]
  · rewrite [closeContext_eq]
    rfl

/-! ### Sites in turn -/

section

variable {r : Recipe} {bs : List Byte} {i : SiteId} {c : Ctx} {y : RowId}

theorem bringRow_here (h : c.winRow = some y) : bringRow r c y = .here c := if_pos h

theorem bringRow_writeback {w : RowId} (h : c.winRow = some w) (hne : w ≠ y) (hdirty : c.dirty = true) :
    bringRow r c y = .writeback := by
  unfold bringRow
  rw [h, hdirty, if_neg (fun hw => hne (Option.some.inj hw))]
  rfl

theorem bringRow_clean (h : c.winRow ≠ some y) (hclean : c.winRow = none ∨ c.dirty = false) :
    bringRow r c y = bringClean r c y := by
  refine (if_neg h).trans (if_neg ?_)
  rcases hclean with hclean | hclean
  · rw [hclean]
    exact nofun
  · rw [hclean, Bool.and_false]
    exact nofun

theorem bringClean_fetch (hdone : c.rowsDone[y] = true) : bringClean r c y = .fetch { c with winRow := none } := if_pos hdone

theorem bringClean_synth (hdone : c.rowsDone[y] = false) : bringClean r c y = .here (c.synthesized r y) :=
  if_neg (Bool.eq_false_iff.1 hdone)

theorem runSites_absent {is : List SiteId} {ds : List SiteDisp} (h : ¬ present r bs i = true) :
    runSites r bs (i :: is) c ds = runSites r bs is c (ds ++ [.absent]) := by
  rw [runSites, if_neg h]

theorem runSites_offMap {is : List SiteId} {ds : List SiteDisp} (h : present r bs i = true) (hdie : siteDie r bs i = none) :
    runSites r bs (i :: is) c ds = runSites r bs is c (ds ++ [.offMap]) := by
  rw [runSites, if_pos h, hdie]

theorem runSites_onMap {is : List SiteId} {ds : List SiteDisp} {x : Nat} (h : present r bs i = true)
    (hdie : siteDie r bs i = some (x, y)) : runSites r bs (i :: is) c ds = match bringRow r c y with
      | .here c' => runSites r bs is (mergeSite r bs i x c') (ds ++ [mergedDisp r bs i])
      | .writeback => .writeback c ds y
      | .fetch c' => .fetch c' ds y := by
  rewrite [runSites, if_pos h, hdie]
  rfl

end

/-- Settles O31. -/
theorem sitesInTurn : Obligations.SitesInTurn := by
  intro r bs i is c ds
  refine ⟨by rw [runSites], fun habsent => ?_, fun hmask hcount => ?_⟩
  · refine runSites_absent fun hpresent => ?_
    obtain ⟨hmask, hcount⟩ := (present_iff r i).1 hpresent
    rcases habsent with h | h
    · exact absurd hmask (Bool.eq_false_iff.1 h)
    · omega
  · intro x y merged
    have hpresent := (present_iff (bs := bs) r i).2 ⟨hmask, hcount⟩
    refine ⟨fun hdie => runSites_offMap hpresent hdie, fun column row hdie => ?_⟩
    have hrow := runSites_onMap (c := c) (is := is) (ds := ds) hpresent hdie
    refine ⟨fun hhere => ?_, fun w hw hne hdirty => ?_, fun hne hclean hdone => ?_, fun hne hclean hdone => ?_⟩
    · rw [hrow, bringRow_here hhere]
    · rw [hrow, bringRow_writeback hw hne hdirty]
    · rw [hrow, bringRow_clean hne hclean, bringClean_fetch hdone]
    · rewrite [hrow, bringRow_clean hne hclean, bringClean_synth hdone]
      rfl

/-! ### A slot's jobs -/

section

variable {s : State} {k : CtxId}

/-- A write that falls due in a slot waits last among the slot's jobs, and may begin at once. -/
theorem addJob_eq (s : State) (k : CtxId) (j : SlotJob) :
    ∃ p, s.addJob k j = s.modCtx k fun c => { c with jobs := c.jobs ++ [j], slotPhase := p } := by
  obtain ⟨p, hp⟩ := kickSlot_frame (s.modCtx k fun c => { c with jobs := c.jobs ++ [j] }) k
  exact ⟨p, hp.trans (modCtx_modCtx s k _ _)⟩

/-- A rewrite that falls due in an idle slot begins at once, with the contents as they stand. -/
theorem rewrite_begins (hphase : s.ctxs[k].slotPhase = none) (hjobs : s.ctxs[k].jobs = []) (hheld : s.slotHeld k = false)
    (why : RewriteFor) : ((s.rewrite k why).ctxs[k]).slotPhase = some (.genOdd (s.ctxs[k]).liveContents) := by
  have hctx := modCtx_get s k fun c => { c with jobs := c.jobs ++ [.rewrite why] }
  have hstart : State.startsNext _ (s.rewrite k why) k :=
    startsNext_kickSlot (u := s.modCtx k fun c => { c with jobs := c.jobs ++ [.rewrite why] }) (by rw [hctx]; exact hphase) hheld
  unfold State.startsNext at hstart
  rw [hstart]
  refine (congrArg Ctx.slotPhase (modAt_get_self _ k _)).trans ?_
  dsimp only
  rewrite [hctx]
  dsimp only
  rewrite [hjobs]
  rfl

end

/-! ### Evaluations -/

section

variable {s t : State} {m : Merge} {k : CtxId} {c : Ctx} {word : Option Word} {code : Byte}

theorem evaluates_announce (h : s.evaluates t m k c word code) (u : State) : s.evaluates (announce u t) m k c word code := by
  obtain ⟨ht, hrest⟩ := h
  exact ⟨congrArg (fun v : State => { v with messages := (announce u t).messages }) ht, hrest⟩

/-- The state in which an evaluation has changed the sets of context `k`, from `c` on, and its events have acted. -/
def State.raised (s : State) (k : CtxId) (c : Ctx) : State :=
  let r := s.recipeFor k
  let evs := evaluationEvents c.active (nextActiveSet r c)
  { s with
    ctxs := modAt s.ctxs k fun _ => evaluated r c
    notices := if evs.any (Event.enabled r) = true then modAt s.notices c.lane fun n => { n with alarm := true } else s.notices
    lanes := if evs.any (Event.holds r) = true then modAt s.lanes c.lane fun n => { n with hold := true } else s.lanes }

/-- Some event of the evaluation is enabled (R72). -/
def State.raises (s : State) (k : CtxId) (c : Ctx) : Bool :=
  (evaluationEvents c.active (nextActiveSet (s.recipeFor k) c)).any (Event.enabled (s.recipeFor k))

theorem evaluateMerge_eq (hentry : c.entry = s.ctxs[k].entry) (m : Merge) (word : Option Word) (code : Byte) :
    (s.modCtx k fun _ => c).evaluateMerge m k word code =
      if s.raises k c = true then (s.raised k c).awaitRewrite m k word code
      else (s.raised k c).conclude m word code := by
  have hctx := modCtx_get s k fun _ => c
  have hrecipe : (s.modCtx k fun _ => c).recipeFor k = s.recipeFor k := modCtx_recipeFor s k hentry
  have hraised : State.raiseEvents ((s.modCtx k fun _ => c).modCtx k (evaluated (s.recipeFor k))) c.lane (s.recipeFor k)
      (evaluationEvents c.active (nextActiveSet (s.recipeFor k) c)) = s.raised k c := by
    rewrite [modCtx_modCtx, raiseEvents_eq]
    rfl
  unfold State.evaluateMerge
  dsimp only
  rewrite [hctx, hrecipe, hraised]
  rfl

theorem raised_ctx (s : State) (k : CtxId) (c : Ctx) : (s.raised k c).ctxs[k] = evaluated (s.recipeFor k) c :=
  modAt_get_self s.ctxs k _

theorem raised_other {k' : CtxId} (h : k' ≠ k) : (s.raised k c).ctxs[k'] = s.ctxs[k'] := modAt_ne s.ctxs k k' _ h

/-- An evaluation, from what it leaves of the merge and of the context's slot. -/
theorem evaluates_of {phase : MergePhase} {on : Bool} (hon : s.raises k c = on) (hframe : t = { s.raised k c with
      ctxs := t.ctxs, merge := some { m with phase := phase } })
    (hphase : phase = if on = true then .awaitLive word code
      else match word with
        | some w => .siteWord w code
        | none => .disposition code)
    (hother : ∀ k' : CtxId, k' ≠ k → t.ctxs[k'] = s.ctxs[k'])
    (hself : t.ctxs[k] = { evaluated (s.recipeFor k) c with
      jobs := if on = true then c.jobs ++ [.rewrite .merge] else c.jobs, slotPhase := (t.ctxs[k]).slotPhase })
    (hbegins : on = true → c.slotPhase = none → c.jobs = [] →
      (t.ctxs[k]).slotPhase = some (.genOdd (evaluated (s.recipeFor k) c).liveContents))
    (hslot : on = false → (t.ctxs[k]).slotPhase = c.slotPhase) : s.evaluates t m k c word code := by
  have hmessages : t.messages = s.messages := by
    rewrite [hframe]
    rfl
  subst hon
  refine ⟨?_, hother, hself, hbegins, hslot⟩
  refine hframe.trans ?_
  rewrite [hphase, hmessages]
  rfl

/-- An evaluation with an enabled event: the writes of the record wait for a live block rewrite. -/
theorem evaluates_awaits (hon : s.raises k c = true) (m : Merge) (word : Option Word) (code : Byte) :
    s.evaluates ((s.raised k c).awaitRewrite m k word code) m k c word code := by
  let v : State := { s.raised k c with merge := some { m with phase := .awaitLive word code } }
  have hctx : v.ctxs[k] = evaluated (s.recipeFor k) c := raised_ctx s k c
  obtain ⟨p, hp⟩ := addJob_eq v k (.rewrite .merge)
  have hawait : (s.raised k c).awaitRewrite m k word code =
      v.modCtx k fun c => { c with jobs := c.jobs ++ [.rewrite .merge], slotPhase := p } := hp
  have hself : ((s.raised k c).awaitRewrite m k word code).ctxs[k] = { evaluated (s.recipeFor k) c with
      jobs := c.jobs ++ [.rewrite .merge], slotPhase := p } := by
    rw [hawait, modCtx_get, hctx]
    rfl
  refine evaluates_of (phase := .awaitLive word code) hon ?_ rfl (fun k' hk' => ?_) ?_ (fun _ hphase hjobs => ?_) nofun
  · rewrite [hawait]
    rfl
  · rw [hawait]
    exact (modAt_ne v.ctxs k k' _ hk').trans (raised_other (s := s) (k := k) (c := c) hk')
  · rewrite [hself]
    rfl
  · have hbegins := rewrite_begins (s := v) (k := k) (by rw [hctx]; exact hphase) (by rw [hctx]; exact hjobs) rfl .merge
    rw [hctx] at hbegins
    exact hbegins

/-- An evaluation without an enabled event: the writes of the record follow at once. -/
theorem evaluates_concludes (hoff : s.raises k c = false) (m : Merge) (word : Option Word) (code : Byte) :
    s.evaluates ((s.raised k c).conclude m word code) m k c word code := by
  let phase : MergePhase := match word with
    | some w => .siteWord w code
    | none => .disposition code
  have hconclude : (s.raised k c).conclude m word code = { s.raised k c with merge := some { m with phase := phase } } := by
    cases word <;> rfl
  have hself : ((s.raised k c).conclude m word code).ctxs[k] = evaluated (s.recipeFor k) c := by
    rw [hconclude]
    exact raised_ctx s k c
  refine evaluates_of (phase := phase) hoff ?_ rfl (fun k' hk' => ?_) ?_ nofun fun _ => ?_
  · rewrite [hconclude]
    rfl
  · rw [hconclude]
    exact raised_other (s := s) (k := k) (c := c) hk'
  · rewrite [hself]
    rfl
  · rw [hself]
    rfl

/-- The evaluation of a record that has left context `k` as `c` does what R68 to R75 say. -/
theorem evaluates_evaluateMerge (hentry : c.entry = s.ctxs[k].entry) (m : Merge) (word : Option Word) (code : Byte) :
    s.evaluates ((s.modCtx k fun _ => c).evaluateMerge m k word code) m k c word code := by
  rw [evaluateMerge_eq hentry]
  by_cases hon : s.raises k c = true
  · rw [if_pos hon]
    exact evaluates_awaits hon m word code
  · rw [if_neg hon]
    exact evaluates_concludes (Bool.eq_false_iff.2 hon) m word code

end

/-! ### Sites that have been taken -/

section

variable {r : Recipe} {bs : List Byte}

theorem countMove_entry (r : Recipe) (c : Ctx) (old new : BinCode) : (countMove r c old new).entry = c.entry := by
  unfold countMove
  split <;> rfl

theorem countSite_entry (r : Recipe) (c : Ctx) (cell : MapCell) (b : BinCode) : (countSite r c cell b).entry = c.entry := by
  unfold countSite
  split
  · rfl
  · exact countMove_entry r _ _ _
  · rfl
  · rfl

theorem mergeSite_entry (r : Recipe) (bs : List Byte) (i : SiteId) (x : Nat) (c : Ctx) :
    (mergeSite r bs i x c).entry = c.entry := countSite_entry r (siteStats r c i _) _ _

theorem bringRow_entry (r : Recipe) (c : Ctx) (y : RowId) : ((bringRow r c y).ctx c).entry = c.entry := by
  unfold bringRow bringClean
  split_ifs
  · rfl
  · rfl
  · rfl
  · rfl

theorem runSites_entry (is : List SiteId) : ∀ (c : Ctx) (ds : List SiteDisp), (runSites r bs is c ds).ctx.entry = c.entry := by
  induction is with
  | nil => exact fun c ds => rfl
  | cons i is ih =>
    intro c ds
    by_cases hpresent : present r bs i = true
    · cases hdie : siteDie r bs i with
      | none =>
        rw [runSites_offMap hpresent hdie]
        exact ih _ _
      | some die =>
        obtain ⟨x, y⟩ := die
        have hentry := bringRow_entry r c y
        rw [runSites_onMap hpresent hdie]
        cases hrow : bringRow r c y with
        | here d =>
          rw [hrow] at hentry
          exact (ih _ _).trans ((mergeSite_entry r bs i x d).trans hentry)
        | writeback => rfl
        | fetch d =>
          rw [hrow] at hentry
          exact hentry
    · rw [runSites_absent hpresent]
      exact ih _ _

/-- A disposition that merges nothing. -/
def SiteDisp.idle (d : SiteDisp) : Prop := d = .absent ∨ d = .offMap

theorem mergedDisp_busy (r : Recipe) (bs : List Byte) (i : SiteId) : ¬ (mergedDisp r bs i).idle := by
  unfold mergedDisp SiteDisp.idle
  split
  · exact nofun
  · exact nofun

theorem runSites_prefix (is : List SiteId) : ∀ (c d : Ctx) (ds es : List SiteDisp), runSites r bs is c ds = .done d es →
    ds <+: es := by
  induction is with
  | nil =>
    intro c d ds es h
    rw [runSites] at h
    cases h
    exact List.prefix_refl ds
  | cons i is ih =>
    intro c d ds es h
    have hnext {c' : Ctx} {x : SiteDisp} (h : runSites r bs is c' (ds ++ [x]) = .done d es) : ds <+: es :=
      (List.prefix_append ds [x]).trans (ih _ _ _ _ h)
    by_cases hpresent : present r bs i = true
    · cases hdie : siteDie r bs i with
      | none => exact hnext ((runSites_offMap hpresent hdie).symm.trans h)
      | some die =>
        obtain ⟨x, y⟩ := die
        rw [runSites_onMap hpresent hdie] at h
        cases hrow : bringRow r c y with
        | here c' =>
          rw [hrow] at h
          exact hnext h
        | writeback =>
          rw [hrow] at h
          exact absurd h nofun
        | fetch c' =>
          rw [hrow] at h
          exact absurd h nofun
    · exact hnext ((runSites_absent hpresent).symm.trans h)

/-- Where every site was absent or off the map, the context is as it was. -/
theorem runSites_unmerged (is : List SiteId) : ∀ (c d : Ctx) (ds es : List SiteDisp), runSites r bs is c ds = .done d es →
    (∀ e ∈ es, e.idle) → d = c := by
  induction is with
  | nil =>
    intro c d ds es h _
    rw [runSites] at h
    cases h
    rfl
  | cons i is ih =>
    intro c d ds es h hidle
    by_cases hpresent : present r bs i = true
    · cases hdie : siteDie r bs i with
      | none => exact ih _ _ _ _ ((runSites_offMap hpresent hdie).symm.trans h) hidle
      | some die =>
        obtain ⟨x, y⟩ := die
        rw [runSites_onMap hpresent hdie] at h
        cases hrow : bringRow r c y with
        | here c' =>
          rw [hrow] at h
          have hmem : mergedDisp r bs i ∈ es := (runSites_prefix is _ _ _ _ h).subset (by simp)
          exact absurd (hidle _ hmem) (mergedDisp_busy r bs i)
        | writeback =>
          rw [hrow] at h
          exact absurd h nofun
        | fetch c' =>
          rw [hrow] at h
          exact absurd h nofun
    · exact ih _ _ _ _ ((runSites_absent hpresent).symm.trans h) hidle

theorem anyMerged_iff (ds : List SiteDisp) : (ds.any fun d => decide (d = .merged) || decide (d = .mergedStray)) = true ↔
    SiteDisp.merged ∈ ds ∨ SiteDisp.mergedStray ∈ ds := by
  simp only [List.any_eq_true, Bool.or_eq_true, decide_eq_true_eq, and_or_left, exists_or, exists_eq_right]

end

/-! ### TOUCHDOWN -/

section

variable {s t : State} {m : Merge} {k : CtxId}

theorem touchRecorded_eq (bs : List Byte) (c : Ctx) : c.touchRecorded bs = { c with
    lastTouch := tdNumber bs
    firstTouch := match c.firstTouch with
      | some f => some f
      | none => some (tdNumber bs)
    idleCount := 0
    idleDue := false } := by
  unfold Ctx.touchRecorded
  cases c.firstTouch <;> rfl

theorem evaluates_congr {c d : Ctx} {word : Option Word} {code : Byte} (hd : c = d) (h : s.evaluates t m k c word code) :
    s.evaluates t m k d word code := hd ▸ h

theorem modCtx_self (s : State) (k : CtxId) : (s.modCtx k fun _ => s.ctxs[k]) = s := by
  have hself : modAt s.ctxs k (fun _ => s.ctxs[k]) = s.ctxs := (modAt_congr s.ctxs k _ (fun c => c) rfl).trans (modAt_id s.ctxs k)
  unfold State.modCtx
  rw [hself]

/-- A TOUCHDOWN that goes on does what R31 and R40 to R43 say. -/
theorem touches_continueTouchdown (s : State) (m : Merge) (k : CtxId) : s.touches (s.continueTouchdown m k) m k := by
  have hentry := runSites_entry (r := s.recipeFor k) (bs := m.bytes) ((List.finRange 16).drop m.disps.length) s.ctxs[k] m.disps
  unfold State.touches State.continueTouchdown
  cases hrun : runSites (s.recipeFor k) m.bytes ((List.finRange 16).drop m.disps.length) s.ctxs[k] m.disps with
  | writeback c ds y => rfl
  | fetch c ds y => rfl
  | done c ds =>
    rw [hrun] at hentry
    refine ⟨fun hidle => ?_, fun hmerged => ?_⟩
    · have hc : c = s.ctxs[k] := runSites_unmerged _ _ _ _ _ hrun hidle
      have hnone : ¬ (ds.any fun d => decide (d = .merged) || decide (d = .mergedStray)) = true := by
        rw [anyMerged_iff]
        rintro (h | h)
        · exact absurd (hidle _ h) nofun
        · exact absurd (hidle _ h) nofun
      dsimp only
      rw [hc, modCtx_self]
      exact if_neg hnone
    · have hend : (s.modCtx k fun _ => c).touchdownEnd { m with disps := ds } k =
          ((s.modCtx k fun _ => c).modCtx k (Ctx.touchRecorded m.bytes)).evaluateMerge
            (Merge.accepted { m with disps := ds } (s.modCtx k fun _ => c).ctxs[k]) k (some (BitVec.ofNat 32 (siteWordOf ds)))
            (if SiteDisp.offMap ∈ ds then dPartial else dAccepted) := if_pos ((anyMerged_iff ds).2 hmerged)
      dsimp only
      rw [hend, modCtx_get, modCtx_modCtx]
      exact evaluates_congr (touchRecorded_eq m.bytes c) (evaluates_evaluateMerge (c := c.touchRecorded m.bytes) hentry _ _ _)

/-- The messages that a TOUCHDOWN raises are its evaluation's. -/
theorem touches_announce (h : s.touches t m k) : s.touches (announce s t) m k := by
  unfold State.touches at *
  cases hrun : runSites (s.recipeFor k) m.bytes ((List.finRange 16).drop m.disps.length) s.ctxs[k] m.disps with
  | writeback c ds y =>
    rw [hrun] at h
    dsimp only at h ⊢
    rw [h]
    exact announce_quiet s _ rfl rfl rfl rfl
  | fetch c ds y =>
    rw [hrun] at h
    dsimp only at h ⊢
    rw [h]
    exact announce_quiet s _ rfl rfl rfl rfl
  | done c ds =>
    rw [hrun] at h
    obtain ⟨hrefused, hmerged⟩ := h
    refine ⟨fun hidle => ?_, fun hbusy => evaluates_announce (hmerged hbusy) s⟩
    rw [hrefused hidle]
    exact announce_quiet s _ rfl rfl rfl rfl

end

/-- Settles O30. -/
theorem touchdownMerges : Obligations.TouchdownMerges := by
  intro s m bs k h hkind hctx _ htag hnumber hmask
  refine ⟨_, ?_, touches_announce (touches_continueTouchdown s { m with bytes := bs } k)⟩
  rw [exec_touchdown h hkind hctx, touchdownRefusal_none htag hnumber hmask]

/-! ### ADJUST -/

section

variable {s t : State} {m : Merge} {k : CtxId} {c : Ctx} {x : Nat} {code : BinCode}

theorem isPass_int (r : Recipe) (b : BinCode) : (((r.isPass b).toNat : Nat) : Int) = if (r.bins[b]).pass = true then 1 else 0 := by
  unfold Recipe.isPass
  cases (r.bins[b]).pass <;> rfl

/-- The context that an ADJUST leaves, apart from its counts. -/
def Ctx.cellSet (c : Ctx) (x : Nat) (code : BinCode) : Ctx := { c with
  cells := c.cells.set x (adjustedCell (c.cellAt x) code)
  dirty := c.dirty || decide (adjustedCell (c.cellAt x) code ≠ c.cellAt x)
  idleCount := 0
  idleDue := false }

theorem adjustCtx_empty (r : Recipe) (h : (c.cellAt x).state = .empty) : adjustCtx r c x code =
    { c.cellSet x code with
      bins := modAt c.bins code (· + 1)
      tested := c.tested + 1
      good := c.good + if (r.bins[code]).pass = true then 1 else 0 } := by
  unfold adjustCtx
  dsimp only
  rewrite [h, ← isPass_int]
  rfl

theorem adjustCtx_same (r : Recipe) (h : (c.cellAt x).state = .binned ∨ (c.cellAt x).state = .adjusted)
    (hcode : (c.cellAt x).code = code) : adjustCtx r c x code = c.cellSet x code := by
  have hmove : countMove r c (c.cellAt x).code code = c := if_pos hcode
  unfold adjustCtx
  dsimp only
  rcases h with h | h
  · rewrite [h]
    dsimp only
    rewrite [hmove]
    rfl
  · rewrite [h]
    dsimp only
    rewrite [hmove]
    rfl

theorem adjustCtx_moved (r : Recipe) (h : (c.cellAt x).state = .binned ∨ (c.cellAt x).state = .adjusted)
    (hcode : (c.cellAt x).code ≠ code) : adjustCtx r c x code = { c.cellSet x code with
      bins := modAt (modAt c.bins (c.cellAt x).code (· - 1)) code (· + 1)
      good := c.good - (if (r.bins[(c.cellAt x).code]).pass = true then 1 else 0) +
        if (r.bins[code]).pass = true then 1 else 0 } := by
  have hmove : countMove r c (c.cellAt x).code code = { c with
      bins := modAt (modAt c.bins (c.cellAt x).code (· - 1)) code (· + 1)
      good := c.good - (r.isPass (c.cellAt x).code).toNat + (r.isPass code).toNat } := if_neg hcode
  rw [isPass_int, isPass_int] at hmove
  unfold adjustCtx
  dsimp only
  rcases h with h | h
  · rewrite [h]
    dsimp only
    rewrite [hmove]
    rfl
  · rewrite [h]
    dsimp only
    rewrite [hmove]
    rfl

/-- The merge of an ADJUST whose cell is in the window. -/
def State.cellAdjusted (s : State) (m : Merge) (k : CtxId) (c : Ctx) (x : Nat) (code : BinCode) : State :=
  (s.modCtx k fun _ => adjustCtx (s.recipeFor k) c x code).evaluateMerge (m.accepted c) k none dAccepted

theorem evaluates_cellAdjusted {d : Ctx} (hset : adjustCtx (s.recipeFor k) c x code = d) (hentry : d.entry = s.ctxs[k].entry)
    (m : Merge) : s.evaluates (s.cellAdjusted m k c x code) (m.accepted c) k d none dAccepted := by
  subst hset
  exact evaluates_evaluateMerge hentry _ _ _

theorem setsCell_cellAdjusted (hentry : c.entry = s.ctxs[k].entry) (m : Merge) (x : Nat) (code : BinCode) :
    s.setsCell (s.cellAdjusted m k c x code) m k c x code :=
  ⟨fun hempty => evaluates_cellAdjusted (adjustCtx_empty _ hempty) hentry m,
    fun hstate hcode => evaluates_cellAdjusted (adjustCtx_same _ hstate hcode) hentry m,
    fun hstate hcode => evaluates_cellAdjusted (adjustCtx_moved _ hstate hcode) hentry m⟩

theorem setsCell_announce (h : s.setsCell t m k c x code) (u : State) : s.setsCell (announce u t) m k c x code := by
  obtain ⟨hempty, hsame, hmoved⟩ := h
  exact ⟨fun hstate => evaluates_announce (hempty hstate) u, fun hstate hcode => evaluates_announce (hsame hstate hcode) u,
    fun hstate hcode => evaluates_announce (hmoved hstate hcode) u⟩

theorem adjusts_announce {y : RowId} (h : s.adjusts t m k x y code) : s.adjusts (announce s t) m k x y code := by
  obtain ⟨hhere, hwriteback, hfetch, hsynth⟩ := h
  refine ⟨fun hrow => setsCell_announce (hhere hrow) s, fun w hw hne hdirty => ?_, fun hne hclean hdone => ?_,
    fun hne hclean hdone => setsCell_announce (hsynth hne hclean hdone) s⟩
  · rw [hwriteback w hw hne hdirty]
    exact announce_quiet s _ rfl rfl rfl rfl
  · rw [hfetch hne hclean hdone]
    exact announce_quiet s _ rfl rfl rfl rfl

theorem continueAdjust_eq {y : RowId} (hdie : onMap (s.recipeFor k) (adjX m.bytes) (adjY m.bytes) = some (x, y))
    (hcode : adjCode m.bytes = code.val) : s.continueAdjust m k = match bringRow (s.recipeFor k) s.ctxs[k] y with
      | .here c => s.cellAdjusted m k c x code
      | .writeback => { s with merge := some { m with phase := .rowWriteback y } }
      | .fetch c => { s.modCtx k (fun _ => c) with merge := some { m with phase := .rowFetch y } } := by
  have hfin : (Fin.ofNat 64 (adjCode m.bytes) : BinCode) = code :=
    Fin.ext ((congrArg (· % 64) hcode).trans (Nat.mod_eq_of_lt code.isLt))
  unfold State.continueAdjust State.cellAdjusted
  rewrite [hdie]
  dsimp only
  rewrite [hfin]
  cases bringRow (s.recipeFor k) s.ctxs[k] y <;> rfl

/-- An ADJUST that goes on does what R45 and R20 say. -/
theorem adjusts_continueAdjust {y : RowId} (hdie : onMap (s.recipeFor k) (adjX m.bytes) (adjY m.bytes) = some (x, y))
    (hcode : adjCode m.bytes = code.val) : s.adjusts (s.continueAdjust m k) m k x y code := by
  rw [continueAdjust_eq hdie hcode]
  refine ⟨fun hrow => ?_, fun w hw hne hdirty => ?_, fun hne hclean hdone => ?_, fun hne hclean hdone => ?_⟩
  · rw [bringRow_here hrow]
    exact setsCell_cellAdjusted rfl m x code
  · rw [bringRow_writeback hw hne hdirty]
  · rewrite [bringRow_clean hne hclean, bringClean_fetch hdone]
    exact congrArg (fun v => { s with ctxs := v, merge := some { m with phase := .rowFetch y } })
      (modAt_congr s.ctxs k (fun _ => { s.ctxs[k] with winRow := none }) (fun c => { c with winRow := none }) rfl)
  · rw [bringRow_clean hne hclean, bringClean_synth hdone]
    have hset := setsCell_cellAdjusted (s := s) (k := k) (c := (s.ctxs[k]).synthesized (s.recipeFor k) y) rfl m x code
    exact hset

end

/-- Settles O34. -/
theorem adjustRecord : Obligations.AdjustRecord := by
  intro s m bs h hkind
  have hread := recordRead_of h (fun n => decide (n = kindAdjust)) (decide_eq_true hkind)
  have hbound {k : CtxId} (hctx : m.ctx = some k) : exec .adjust s =
      match adjustRefusal (s.recipeFor k) s.ctxs[k] bs with
      | some d => .next (s.dispose { m with bytes := bs } d)
      | none => .next (announce s (s.continueAdjust { m with bytes := bs } k)) := by
    show execAdjust s = _
    rw [execAdjust, hread]
    dsimp only
    rewrite [hctx]
    rfl
  have hrefused {k : CtxId} (hctx : m.ctx = some k) {d : Byte} (hd : adjustRefusal (s.recipeFor k) s.ctxs[k] bs = some d) :
      ∃ t, exec .adjust s = .next t ∧ s.disposes t m bs d := by
    refine ⟨s.dispose { m with bytes := bs } d, ?_, rfl⟩
    rw [hbound hctx, hd]
  refine ⟨fun hctx => ⟨s.dispose { m with bytes := bs } dNoWafer, ?_, rfl⟩, fun k hctx => ?_⟩
  · show execAdjust s = _
    rw [execAdjust, hread]
    dsimp only
    rw [hctx]
  · intro r c
    refine ⟨fun htag => hrefused hctx (if_pos htag), fun htag hdie => hrefused hctx ?_, fun htag hdie hcode => hrefused hctx ?_,
      fun x y code htag hdie hcode => ⟨_, ?_, adjusts_announce (adjusts_continueAdjust hdie hcode)⟩⟩
    · exact (if_neg (not_not_intro htag)).trans (if_pos (Option.isNone_iff_eq_none.2 hdie))
    · exact ((if_neg (not_not_intro htag)).trans (if_neg (mt Option.isNone_iff_eq_none.1 hdie))).trans (if_pos hcode)
    · have hnone : adjustRefusal (s.recipeFor k) s.ctxs[k] bs = none :=
        ((if_neg (not_not_intro htag)).trans (if_neg (by rw [hdie]; exact nofun))).trans (if_neg (by omega))
      rw [hbound hctx, hnone]

/-! ### Row operations -/

section

variable {s : State} {m : Merge} {k : CtxId}

theorem windowClean_eq {c : Ctx} {w : RowId} (h : c.winRow = some w) :
    c.windowClean = { c with rowsDone := c.rowsDone.set w true, dirty := false } := by
  rw [Ctx.windowClean, h]

theorem windowWrite_eq {w : RowId} (h : s.ctxs[k].winRow = some w) : s.windowWrite k =
    some (s.rowAddr k (s.recipeFor k).cols w, rowBytes s.ctxs[k].cells) := by
  rw [State.windowWrite, h]

theorem mergeWrite_writeback {y w : RowId} (hphase : m.phase = .rowWriteback y) (hctx : m.ctx = some k)
    (hw : s.ctxs[k].winRow = some w) :
    s.mergeWrite m = some (s.rowAddr k (s.recipeFor k).cols w, rowBytes s.ctxs[k].cells) := by
  unfold State.mergeWrite
  dsimp only
  rw [hphase]
  dsimp only
  rw [hctx]
  exact windowWrite_eq hw

/-- A context whose window's row has been stored. -/
def State.windowStored (s : State) (k : CtxId) (w : RowId) : State :=
  (s.store (s.rowAddr k (s.recipeFor k).cols w) (rowBytes s.ctxs[k].cells)).modCtx k fun c =>
    { c with rowsDone := c.rowsDone.set w true, dirty := false }

theorem storedClean_eq {w : RowId} (hw : s.ctxs[k].winRow = some w) :
    (s.store (s.rowAddr k (s.recipeFor k).cols w) (rowBytes s.ctxs[k].cells)).modCtx k Ctx.windowClean = s.windowStored k w :=
  congrArg (fun v => { s.store (s.rowAddr k (s.recipeFor k).cols w) (rowBytes s.ctxs[k].cells) with ctxs := v })
    (modAt_congr s.ctxs k Ctx.windowClean _ (windowClean_eq hw))

theorem windowStored_recipeFor (s : State) (k : CtxId) (w : RowId) : (s.windowStored k w).recipeFor k = s.recipeFor k :=
  modCtx_recipeFor (s.store (s.rowAddr k (s.recipeFor k).cols w) (rowBytes s.ctxs[k].cells)) k rfl

theorem exec_rowWritebackDone (hworking : s.engine.run = .running ∨ s.engine.run = .draining) (hmerge : s.merge = some m)
    (hctx : m.ctx = some k) {y w : RowId} (hphase : m.phase = .rowWriteback y) (hw : s.ctxs[k].winRow = some w) :
    exec .rowWritebackDone s = .next (announce s ((s.windowStored k w).afterWriteback m k y)) := by
  show execRowWritebackDone s = _
  rw [execRowWritebackDone, hmerge]
  dsimp only
  rw [hphase, hctx]
  dsimp only
  rw [if_pos (working_of hworking), mergeWrite_writeback hphase hctx hw, State.storeOpt, storedClean_eq hw]

theorem exec_rowFetchDone (hworking : s.engine.run = .running ∨ s.engine.run = .draining) (hmerge : s.merge = some m)
    (hctx : m.ctx = some k) {y : RowId} (hphase : m.phase = .rowFetch y) : exec (.rowFetchDone .returned) s =
      .next (announce s ((s.modCtx k (Ctx.fetched
        (rowOf (memSrc s.mem (s.rowAddr k (s.recipeFor k).cols y)) (s.recipeFor k).cols) y)).continueMerge m k)) := by
  show execRowFetchDone .returned s = _
  rw [execRowFetchDone, hmerge]
  dsimp only
  rw [hphase, hctx]
  exact if_pos (working_of hworking)

theorem afterWriteback_fetch {u : State} {y : RowId} (hdone : u.ctxs[k].rowsDone[y] = true) : u.afterWriteback m k y = { u with
    ctxs := modAt u.ctxs k fun c => { c with winRow := none }, merge := some { m with phase := .rowFetch y } } := by
  have hctxs : modAt u.ctxs k (fun _ => { u.ctxs[k] with winRow := none }) = modAt u.ctxs k fun c => { c with winRow := none } :=
    modAt_congr u.ctxs k _ _ rfl
  rw [State.afterWriteback, bringClean_fetch hdone, ← hctxs]
  rfl

theorem afterWriteback_synth {u : State} {y : RowId} (hdone : u.ctxs[k].rowsDone[y] = false) : u.afterWriteback m k y =
    State.continueMerge { u with ctxs := modAt u.ctxs k fun c =>
      { c with winRow := some y, dirty := true, cells := synthRow (u.recipeFor k) y } } m k := by
  have hctxs : modAt u.ctxs k (fun _ => u.ctxs[k].synthesized (u.recipeFor k) y) = modAt u.ctxs k fun c =>
      { c with winRow := some y, dirty := true, cells := synthRow (u.recipeFor k) y } := modAt_congr u.ctxs k _ _ rfl
  rw [State.afterWriteback, bringClean_synth hdone, ← hctxs]
  rfl

theorem continueMerge_touchdown (h : recKind m.bytes = 2) : s.continueMerge m k = s.continueTouchdown m k := if_pos h

theorem continueMerge_adjust (h : recKind m.bytes ≠ 2) : s.continueMerge m k = s.continueAdjust m k := if_neg h

end

/-- Settles O36. -/
theorem rowOperationsComplete : Obligations.RowOperationsComplete := by
  refine ⟨fun s m k y hworking hmerge hctx => ?_, fun s m k => ⟨fun hkind => ?_, fun x y code hkind hdie hcode => ?_⟩⟩
  · intro cols row c
    refine ⟨fun w hphase hw => ?_, fun hphase => ⟨_, exec_rowFetchDone hworking hmerge hctx hphase, rfl⟩⟩
    let u := s.windowStored k w
    have hbase := State.afterWriteback_base u m k y
    refine ⟨u, announce s (u.afterWriteback m k y), exec_rowWritebackDone hworking hmerge hctx hphase hw,
      congrArg Base.mem hbase, congrArg Base.past hbase, s.stores_store _ _, rfl, fun hdone => ?_, fun hdone => ?_⟩
    · rw [afterWriteback_fetch hdone]
      exact announce_quiet s _ rfl rfl rfl rfl
    · have hsynth := afterWriteback_synth (m := m) hdone
      rw [windowStored_recipeFor] at hsynth
      rewrite [hsynth]
      rfl
  · rw [continueMerge_touchdown hkind]
    exact touches_continueTouchdown s m k
  · rw [continueMerge_adjust hkind]
    exact adjusts_continueAdjust hdie hcode

/-! ### The writes that end a record -/

theorem leBytes_four (g : Word) : leBytes 4 g.toNat =
    [g.extractLsb' 0 8, g.extractLsb' 8 8, g.extractLsb' 16 8, g.extractLsb' 24 8] := by
  refine List.ext_getElem rfl fun i hi hi' => ?_
  have h4 : i < 4 := hi'
  refine (leBytes_word g ⟨i, h4⟩ hi).trans ?_
  obtain rfl | rfl | rfl | rfl : i = 0 ∨ i = 1 ∨ i = 2 ∨ i = 3 := by omega
  · rfl
  · rfl
  · rfl
  · rfl

theorem advanced_eq {n : Lane} {v : InService} (h : n.inService = some v) : n.advanced =
    if v.next + 1 < v.count then { n with state := .ready, inService := some { v with next := v.next + 1 } }
    else { n with state := .idle, inService := some { v with next := v.next + 1 }, ret := .writing } := by
  rw [Lane.advanced, h]

/-- Settles O35. -/
theorem recordDisposed : Obligations.RecordDisposed := by
  intro s m v hrun hmerge hhalf a
  refine ⟨fun word code hphase => ?_, fun code hphase => ?_⟩
  · have hwrite : s.mergeWrite m = some (a + 20, leBytes 4 word.toNat) := by
      rewrite [State.mergeWrite, hphase]
      rfl
    have hexec : exec .siteWordWritten s = .next ((s.store (a + 20) (leBytes 4 word.toNat)).dispose m code) := by
      show execSiteWordWritten s = _
      rw [execSiteWordWritten, hmerge]
      dsimp only
      rw [hphase]
      dsimp only
      rw [if_pos (working_of (.inl hrun)), hwrite]
      rfl
    rw [leBytes_four] at hexec
    exact ⟨_, hexec, rfl, stores_of rfl rfl⟩
  · have hwrite : s.mergeWrite m = some (a + 1, [code]) := by
      rewrite [State.mergeWrite, hphase]
      rfl
    have hdrain : (((s.store (a + 1) [code]).endMerge m).modLane m.lane Lane.advanced).drainWork =
        ((s.store (a + 1) [code]).endMerge m).modLane m.lane Lane.advanced := by
      rw [endMerge_eq]
      exact drainWork_running hrun
    have hexec : exec .dispositionWritten s = .next (((s.store (a + 1) [code]).endMerge m).modLane m.lane Lane.advanced) := by
      rw [← hdrain]
      show execDispositionWritten s = _
      rw [execDispositionWritten, hmerge]
      dsimp only
      rw [hphase]
      dsimp only
      rw [if_pos (working_of (.inl hrun)), hwrite]
      rfl
    have hlanes := modAt_congr s.lanes m.lane Lane.advanced (fun n =>
      if v.next + 1 < v.count then { n with state := .ready, inService := some { v with next := v.next + 1 } }
      else { n with state := .idle, inService := some { v with next := v.next + 1 }, ret := .writing }) (advanced_eq hhalf)
    rw [endMerge_eq] at hexec
    refine ⟨_, hexec, ?_, stores_of rfl rfl⟩
    rewrite [← hlanes]
    rfl

end Sys2Proof.Machine
end

section
/-!
PROOFS. OPEN records: the checks of Tables 6-1 and 6-2 one by one, what each end leaves, and the LIVE writes of an accepted one.
They settle O38 and O40.
-/

namespace Sys2Proof.Machine

/-! ### The checks -/

section

variable {s : State} {id : Word} {n : Nat} {i : LotId}

/-- A lot entry that a lot id names (R105). -/
def State.holdsLot (s : State) (id : Word) (i : LotId) : Prop :=
  (s.lots[i].state = .active ∨ s.lots[i].state = .ending) ∧ s.lots[i].id = id

theorem holdsLot_iff : ((decide (s.lots[i].state = .active) || decide (s.lots[i].state = .ending)) &&
    decide (s.lots[i].id = id)) = true ↔ s.holdsLot id i := by
  rw [Bool.and_eq_true, Bool.or_eq_true, decide_eq_true_eq, decide_eq_true_eq, decide_eq_true_eq]
  rfl

theorem lotEntry_some (h : s.holdsLot id i) (hfirst : ∀ i' < i, ¬ s.holdsLot id i') : s.lotEntry id = some i :=
  find_first 8 _ i (holdsLot_iff.2 h) fun i' hi' => Bool.eq_false_iff.2 (mt holdsLot_iff.1 (hfirst i' hi'))

theorem lotEntry_none (h : ∀ i, ¬ s.holdsLot id i) : s.lotEntry id = none :=
  find_none_of 8 _ fun i => Bool.eq_false_iff.2 (mt holdsLot_iff.1 (h i))

theorem lotCheck_held (h : s.lotEntry id = some i) : s.lotCheck id n =
    if s.lots[i].state = .ending then .error dLotBusy
    else if s.lots[i].recipe ≠ n then .error dRecipeMismatch
    else if s.lots[i].wafersAll = Config.lotMax then .error dLotFull
    else .ok (.join i) := by
  rw [State.lotCheck, h]

theorem lotCheck_ending (h : s.lotEntry id = some i) (hstate : s.lots[i].state = .ending) :
    s.lotCheck id n = .error dLotBusy := (lotCheck_held h).trans (if_pos hstate)

theorem lotCheck_mismatch (h : s.lotEntry id = some i) (hstate : s.lots[i].state = .active) (hrecipe : s.lots[i].recipe ≠ n) :
    s.lotCheck id n = .error dRecipeMismatch :=
  ((lotCheck_held h).trans (if_neg (by rw [hstate]; exact nofun))).trans (if_pos hrecipe)

theorem lotCheck_full (h : s.lotEntry id = some i) (hstate : s.lots[i].state = .active) (hrecipe : s.lots[i].recipe = n)
    (hfull : s.lots[i].wafersAll = 255) : s.lotCheck id n = .error dLotFull :=
  (((lotCheck_held h).trans (if_neg (by rw [hstate]; exact nofun))).trans (if_neg (not_not_intro hrecipe))).trans (if_pos hfull)

theorem lotCheck_join (h : s.lotEntry id = some i) (hstate : s.lots[i].state = .active) (hrecipe : s.lots[i].recipe = n)
    (hroom : s.lots[i].wafersAll ≠ 255) : s.lotCheck id n = .ok (.join i) :=
  (((lotCheck_held h).trans (if_neg (by rw [hstate]; exact nofun))).trans (if_neg (not_not_intro hrecipe))).trans (if_neg hroom)

theorem lotCheck_create (h : s.lotEntry id = none) (hfree : s.lots[i].state = .free)
    (hfirst : ∀ i' < i, s.lots[i'].state ≠ .free) : s.lotCheck id n = .ok (.create i) := by
  have hfind := find_first 8 (fun i => decide (s.lots[i].state = .free)) i (decide_eq_true hfree)
    fun i' hi' => decide_eq_false (hfirst i' hi')
  rw [State.lotCheck, h]
  dsimp only
  rw [hfind]

theorem lotCheck_noRoom (h : s.lotEntry id = none) (hnone : ∀ i : LotId, s.lots[i].state ≠ .free) :
    s.lotCheck id n = .error dLotTableFull := by
  have hfind := find_none_of 8 (fun i => decide (s.lots[i].state = .free)) fun i => decide_eq_false (hnone i)
  rw [State.lotCheck, h]
  dsimp only
  rw [hfind]

theorem freeCtx_none (h : ∀ k : CtxId, s.ctxs[k].state ≠ .free) : s.freeCtx = none :=
  find_none_of 24 _ fun k => decide_eq_false (h k)

theorem freeCtx_some {k : CtxId} (h : s.ctxs[k].state = .free) (hfirst : ∀ k' < k, s.ctxs[k'].state ≠ .free) :
    s.freeCtx = some k := find_first 24 _ k (decide_eq_true h) fun k' hk' => decide_eq_false (hfirst k' hk')

theorem freeCtx_exists (h : ∃ k : CtxId, s.ctxs[k].state = .free) : ∃ k, s.freeCtx = some k := by
  obtain ⟨k, hk⟩ := h
  exact Option.isSome_iff_exists.1 (List.find?_isSome.2 ⟨k, List.mem_finRange k, decide_eq_true hk⟩)

end

/-! ### The decision -/

section

variable {s : State} {m : Merge}

theorem openDecision_bound (h : s.lanes[m.lane].ctx ≠ none) : s.openDecision m = .refuse dAlreadyOpen :=
  if_pos (Option.isSome_iff_ne_none.2 h)

theorem openDecision_badRecipe (h : s.lanes[m.lane].ctx = none) (hn : s.engine.config.recipeCount ≤ openRecipe m.bytes) :
    s.openDecision m = .refuse dBadRecipe := (if_neg (by rw [h]; exact nofun)).trans (if_pos hn)

/-- Steps 1 and 2 of Table 6-1 are passed. -/
def State.opens (s : State) (m : Merge) : Prop := s.lanes[m.lane].ctx = none ∧ openRecipe m.bytes < s.engine.config.recipeCount

theorem openDecision_lotRefused (h : s.opens m) {d : Byte} (hlot : s.lotCheck (openLot m.bytes) (openRecipe m.bytes) = .error d) :
    s.openDecision m = .refuse d := by
  obtain ⟨hctx, hn⟩ := h
  unfold State.openDecision
  rw [if_neg (by rw [hctx]; exact nofun), if_neg (by omega), hlot]

theorem openDecision_noContext (h : s.opens m) {lot : LotChoice}
    (hlot : s.lotCheck (openLot m.bytes) (openRecipe m.bytes) = .ok lot) (hfree : s.freeCtx = none) :
    s.openDecision m = .waitContext := by
  obtain ⟨hctx, hn⟩ := h
  unfold State.openDecision
  rw [if_neg (by rw [hctx]; exact nofun), if_neg (by omega), hlot]
  dsimp only
  rw [hfree]

/-- The end of an OPEN that has reached the recipe lookup (Table 6-1, steps 5 and 6). -/
def State.lookupEnds (s : State) (k : CtxId) (lot : LotChoice) : Lookup → OpenDecision
  | .refused => .refuse dBadRecipe
  | .join e => .joinLoad e
  | .load e => .startLoad e
  | .full => .waitRecipe
  | .ready e => if s.mapTooBig s.cache[e].copy then .refuse dMapTooBig else .accept k e lot

theorem openDecision_lookup (h : s.opens m) {lot : LotChoice}
    (hlot : s.lotCheck (openLot m.bytes) (openRecipe m.bytes) = .ok lot) {k : CtxId} (hfree : s.freeCtx = some k)
    {found : Lookup} (hfound : s.lookup (openRecipe m.bytes) m.lane = found) : s.openDecision m = s.lookupEnds k lot found := by
  obtain ⟨hctx, hn⟩ := h
  unfold State.openDecision
  rw [if_neg (by rw [hctx]; exact nofun), if_neg (by omega), hlot]
  dsimp only
  rw [hfree]
  dsimp only
  rw [hfound]
  cases found <;> rfl

/-- The victim that a lookup returns is free to be loaded. -/
theorem victim_candidate {e : EntryId} (h : s.victim = some e) : s.cache[e].candidate = true := by
  unfold State.victim at h
  split at h
  · next e' hfresh =>
      cases h
      have hfound := List.find?_some hfresh
      rw [Bool.and_eq_true, Bool.and_eq_true] at hfound
      exact hfound.1.1
  · split at h
    · next e' hvalid =>
        cases h
        have hfound := List.find?_some hvalid
        rw [Bool.and_eq_true] at hfound
        exact hfound.1
    · have hfound := List.find?_some h
      rw [Bool.and_eq_true] at hfound
      exact hfound.1

theorem lookup_load {n : Nat} {l : LaneId} {e : EntryId} (h : s.lookup n l = .load e) : s.victim = some e := by
  unfold State.lookup at h
  split at h
  · exact absurd h nofun
  · split at h
    · exact absurd h nofun
    · split at h
      · exact absurd h nofun
      · split at h
        · exact absurd h nofun
        · split at h
          · exact absurd h nofun
          · split at h
            · next e' hvictim =>
                cases h
                exact hvictim
            · exact absurd h nofun

end

/-! ### The end of an OPEN -/

section

variable {s : State} {m : Merge} {bs : List Byte}

/-- An OPEN ends as its checks decide, with the lane out of every waiter set. -/
theorem exec_openRecord (h : s.reads m bs) (hkind : recKind bs = 1) {d : OpenDecision}
    (hd : s.openDecision { m with bytes := bs } = d) {u : State} (hu : (s.leaveWaiters m.lane).applyOpen { m with bytes := bs } d = u) :
    ∃ t, exec .openRecord s = .next t ∧ s.openEnds u t m.lane := by
  subst hd hu
  refine ⟨s.executeOpen { m with bytes := bs }, ?_, openEnds_wake s _ m.lane⟩
  show execOpenRecord s = _
  rw [execOpenRecord, recordRead_of h _ (decide_eq_true hkind)]

/-- What a wait leaves of the merge and the lane. -/
theorem leaveWaiting_eq (s : State) (m : Merge) (w : LaneState) : s.leaveWaiting m w = { s with
    merge := none
    ctxs := match m.ctx with
      | some k => modAt s.ctxs k fun c => { c with inMerge := false }
      | none => s.ctxs
    lanes := modAt s.lanes m.lane fun n => { n with state := w } } := by
  unfold State.leaveWaiting
  rewrite [endMerge_eq]
  rfl

/-- A load that starts in a free entry stores the old trend words first when they are dirty. -/
theorem startLoad_entry {c : CacheEntry} (hfree : c.writing = none) (addr since n : Nat) (waiters : Vector Bool 16) :
    (let storing := decide (c.state = .valid) && c.dirty
     let d := if storing then c.takeTrend addr else c
     { d with
       state := .loading, number := n, pins := 0, stale := false, mark := none, waiters := waiters
       copy := Config.discardedCopy d.copy, load := if storing then .afterTrend else .reading since }) =
    (let storing := decide (c.state = .valid) && c.dirty
     { c with
       state := .loading, number := n, pins := 0, stale := false, mark := none, waiters := waiters
       copy := Config.discardedCopy c.copy
       dirty := if storing = true then false else c.dirty
       writing := if storing = true then some ⟨addr, c.trendE, c.trendCnt⟩ else c.writing
       load := if storing = true then .afterTrend else .reading since }) := by
  dsimp only
  rw [takeTrend_free hfree]
  cases decide (c.state = .valid) && c.dirty <;> rfl

theorem leaveWaiters_entry (s : State) (l : LaneId) (e : EntryId) :
    (s.leaveWaiters l).cache[e] = { s.cache[e] with waiters := s.cache[e].waiters.set l false } := by
  rw [State.leaveWaiters]
  show (mapAll s.cache _)[e.val] = _
  rw [mapAll_get]
  rfl

end

/-- Settles O38. -/
theorem openRefusedOrWaits : Obligations.OpenRefusedOrWaits := by
  intro s m bs h hkind n left held refused waits
  have hrefused {d : Byte} (hd : s.openDecision { m with bytes := bs } = .refuse d) : refused d :=
    exec_openRecord h hkind hd rfl
  have hwaits {d : OpenDecision} {w : LaneState} {u : State} (hd : s.openDecision { m with bytes := bs } = d)
      (hu : (s.leaveWaiters m.lane).applyOpen { m with bytes := bs } d = u.leaveWaiting { m with bytes := bs } w)
      (hframe : u = { s with cache := u.cache }) : waits w u.cache := by
    refine exec_openRecord h hkind hd (hu.trans ((leaveWaiting_eq u { m with bytes := bs } w).trans ?_))
    rewrite [hframe]
    rfl
  refine ⟨fun hctx => hrefused (openDecision_bound hctx), fun hctx hn => hrefused (openDecision_badRecipe hctx hn),
    fun hctx hn => ?_⟩
  have hopens : s.opens { m with bytes := bs } := ⟨hctx, hn⟩
  refine ⟨fun i hi hfirst => ?_, fun hnone hfree => ?_, fun lot hlot => ⟨fun hnone => ?_, fun hfree => ?_⟩⟩
  · have hentry : s.lotEntry (openLot bs) = some i := lotEntry_some hi hfirst
    exact ⟨fun hstate => hrefused (openDecision_lotRefused hopens (lotCheck_ending hentry hstate)),
      fun hstate hrecipe => hrefused (openDecision_lotRefused hopens (lotCheck_mismatch hentry hstate hrecipe)),
      fun hstate hrecipe hfull => hrefused (openDecision_lotRefused hopens (lotCheck_full hentry hstate hrecipe hfull))⟩
  · exact hrefused (openDecision_lotRefused hopens (lotCheck_noRoom (lotEntry_none hnone) hfree))
  · exact hwaits (u := s.leaveWaiters m.lane) (openDecision_noContext hopens hlot (freeCtx_none hnone)) rfl rfl
  · obtain ⟨k, hk⟩ := freeCtx_exists hfree
    have hlookup {found : Lookup} (hfound : s.lookup n m.lane = found) :
        s.openDecision { m with bytes := bs } = s.lookupEnds k lot found := openDecision_lookup hopens hlot hk hfound
    refine ⟨fun hfound => hrefused (hlookup hfound), fun hfound => hwaits (u := s.leaveWaiters m.lane) (hlookup hfound) rfl rfl,
      fun e hfound => hwaits (u := (s.leaveWaiters m.lane).joinWaiters e m.lane) (hlookup hfound) rfl rfl, fun e hfound => ?_,
      fun e hfound hbig => ?_⟩
    · intro storing
      have hfree : (s.leaveWaiters m.lane).cache[e].writing = none := by
        rw [leaveWaiters_entry]
        exact ((candidate_iff _).1 (victim_candidate (lookup_load hfound))).2.2.2
      have hload := hwaits (u := (s.leaveWaiters m.lane).startLoad e n m.lane) (hlookup hfound) rfl rfl
      have hstoring : (decide ((s.leaveWaiters m.lane).cache[e].state = .valid) && (s.leaveWaiters m.lane).cache[e].dirty) =
          storing := by rw [leaveWaiters_entry]
      have hentry := startLoad_entry hfree (s.trendAddr (s.leaveWaiters m.lane).cache[e].number) s.past.length n
        (noWaiters.set m.lane true)
      rw [hstoring] at hentry
      have hcache : ((s.leaveWaiters m.lane).startLoad e n m.lane).cache = modAt left e fun c => { c with
          state := .loading
          number := n
          pins := 0
          stale := false
          mark := none
          waiters := (Vector.replicate 16 false).set m.lane true
          copy := Config.discardedCopy c.copy
          dirty := if storing = true then false else c.dirty
          writing := if storing = true then
            some ⟨s.engine.config.recipeTable + c.number * 4096 + 36, c.trendE, c.trendCnt⟩ else c.writing
          load := if storing = true then .afterTrend else .reading s.past.length } := by
        unfold State.startLoad
        rw [State.modEntry_cache]
        refine modAt_congr (s.leaveWaiters m.lane).cache e _ _ ?_
        refine Eq.trans ?_ hentry
        dsimp only
        rw [← hstoring]
        rfl
      rw [hcache] at hload
      exact hload
    · refine hrefused ((hlookup hfound).trans (if_pos ?_))
      exact decide_eq_true hbig

/-! ### An accepted OPEN -/

section

variable {s : State} {m : Merge} {k : CtxId}

/-- A rewrite of a slot that an OPEN holds for its LIVE write waits (R107). -/
theorem rewrite_held (hheld : s.slotHeld k = true) (why : RewriteFor) :
    s.rewrite k why = s.modCtx k fun c => { c with jobs := c.jobs ++ [.rewrite why] } := by
  have hkick (u : State) (h : u.slotHeld k = true) : u.kickSlot k = u := by
    unfold State.kickSlot
    split
    · exact if_pos h
    · rfl
  exact hkick _ hheld

/-- A slot with a write in flight begins no other. -/
theorem kickSlot_busy (h : s.ctxs[k].slotPhase ≠ none) : s.kickSlot k = s := by
  unfold State.kickSlot
  split
  · next hnone _ => exact absurd hnone h
  · rfl

/-- The context of an accepted OPEN. -/
def Ctx.opened (m : Merge) (e : EntryId) (i : LotId) (r : Recipe) (c : Ctx) : Ctx := { Ctx.reset with
  state := .opened, lane := m.lane, bound := true, lot := i, recipeNumber := openRecipe m.bytes, entry := e
  tag := recTag m.bytes, idleLimit := r.idleLimit, generation := c.generation, cells := c.cells.take r.cols
  jobs := c.jobs ++ [.rewrite .merge], slotPhase := c.slotPhase, drainWrite := c.drainWrite }

/-- What an accepted OPEN makes of the chip, with the lot entry of its wafer as told. -/
def State.opensAs (s : State) (m : Merge) (k : CtxId) (e : EntryId) (i : LotId) (phase : MergePhase) (f : Lot → Lot) : State :=
  { s with
    lots := modAt s.lots i f
    cache := modAt s.cache e fun c => { c with pins := c.pins + 1 }
    lastUse := moveToFront e s.lastUse
    lanes := modAt s.lanes m.lane fun n => { n with ctx := some k }
    ctxs := modAt s.ctxs k (Ctx.opened m e i s.cache[e].copy)
    merge := some { m with phase := phase } }

theorem opensAs_eq (s : State) (m : Merge) (k : CtxId) (e : EntryId) (i : LotId) {phase : MergePhase}
    (hphase : phase.holdsSlot k = true) (f : Lot → Lot) : State.rewrite { State.modLot
      (((s.modCtx k (Ctx.openedWith m e i s.cache[e].copy)).pin e).modLane m.lane fun n => { n with ctx := some k }) i f with
        merge := some { m with phase := phase } } k .merge = s.opensAs m k e i phase f := by
  refine (rewrite_held (by exact hphase) .merge).trans ?_
  unfold State.modLot State.modLane State.pin State.modEntry State.modCtx State.opensAs
  dsimp only
  rewrite [modAt_modAt]
  rfl

theorem acceptOpen_join (s : State) (m : Merge) (k : CtxId) (e : EntryId) (i : LotId) :
    s.acceptOpen m k e (.join i) = s.opensAs m k e i (.slotLive k) Lot.joined :=
  opensAs_eq s m k e i (phase := .slotLive k) (decide_eq_true rfl) Lot.joined

theorem acceptOpen_create (s : State) (m : Merge) (k : CtxId) (e : EntryId) (i : LotId) :
    s.acceptOpen m k e (.create i) = s.opensAs m k e i (.lotLive i k) (Lot.created m s.cache[e].copy) :=
  opensAs_eq s m k e i (phase := .lotLive i k) (decide_eq_true rfl) (Lot.created m s.cache[e].copy)

/-- The copy of an entry does not depend on who waits for it. -/
theorem leaveWaiters_copy (s : State) (l : LaneId) (e : EntryId) : (s.leaveWaiters l).cache[e].copy = s.cache[e].copy := by
  rw [leaveWaiters_entry]

end

/-- Settles O40. -/
theorem openAccepted : Obligations.OpenAccepted := by
  refine ⟨fun s m bs k e i h hkind hctx hn hfree hfirst hfound hfits => ?_, fun s m k hworking hmerge =>
    ⟨fun i hphase => ?_, fun hphase => ?_⟩⟩
  · intro r held left taken
    have hopens : s.opens { m with bytes := bs } := ⟨hctx, hn⟩
    have hlookup {lot : LotChoice} (hlot : s.lotCheck (openLot bs) (openRecipe bs) = .ok lot) :
        s.openDecision { m with bytes := bs } = .accept k e lot := by
      refine (openDecision_lookup hopens hlot (freeCtx_some hfree hfirst) hfound).trans (if_neg ?_)
      rw [State.mapTooBig, decide_eq_true_eq]
      exact Nat.not_lt.2 hfits
    have hcopy := leaveWaiters_copy s m.lane e
    refine ⟨fun hheld hnone hstate hrecipe hroom => ?_, fun hnone hlotFree hlowest => ?_⟩
    · have hlot := lotCheck_join (lotEntry_some hheld hnone) hstate hrecipe hroom
      refine exec_openRecord h hkind (hlookup hlot) ((acceptOpen_join _ _ k e i).trans ?_)
      unfold State.opensAs
      rewrite [hcopy]
      rfl
    · have hlot := lotCheck_create (n := openRecipe bs) (lotEntry_none hnone) hlotFree hlowest
      refine exec_openRecord h hkind (hlookup hlot) ((acceptOpen_create _ _ k e i).trans ?_)
      unfold State.opensAs
      rewrite [hcopy]
      rfl
  · have hwrite : s.mergeWrite m = some (s.lotAddr i, [1, 0, 0, 0]) := by
      rewrite [State.mergeWrite, hphase]
      rfl
    have hexec : exec .handoverLiveWritten s =
        .next { s.store (s.lotAddr i) [1, 0, 0, 0] with merge := some { m with phase := .slotLive k } } := by
      show execHandoverLiveWritten s = _
      rw [execHandoverLiveWritten, hmerge]
      dsimp only
      rw [hphase]
      dsimp only
      rewrite [if_pos (working_of hworking), hwrite]
      rfl
    exact ⟨_, hexec, rfl, stores_of rfl rfl⟩
  · have hwrite : s.mergeWrite m = some (s.slotAddr k, [1, 0, 0, 0]) := by
      rewrite [State.mergeWrite, hphase]
      rfl
    let u : State := { s.store (s.slotAddr k) [1, 0, 0, 0] with merge := some { m with phase := .awaitLive none dAccepted } }
    have hexec : exec .handoverLiveWritten s = .next (u.kickSlot k) := by
      show execHandoverLiveWritten s = _
      rw [execHandoverLiveWritten, hmerge]
      dsimp only
      rw [hphase]
      dsimp only
      rewrite [if_pos (working_of hworking), hwrite]
      rfl
    exact ⟨_, u, hexec, rfl, stores_of rfl rfl, fun hidle => startsNext_kickSlot hidle rfl, fun hbusy => kickSlot_busy hbusy⟩

end Sys2Proof.Machine
end

section
/-!
PROOFS. Byte layouts: what lies where in a map row, a monitor set and a live block, and the rewrites of live blocks. They settle
O37 and O41; the reading of byte areas serves O29, O44 and O47 as well.
-/

namespace Sys2Proof.Machine

/-! ### Fields of a byte area -/

/-- The bytes `bs` lie at offset `o` of an area. -/
def holdsAt (src : Nat → Byte) (o : Nat) (bs : List Byte) : Prop := ∀ j < bs.length, src (o + j) = bs.getD j 0

section

variable {src : Nat → Byte} {o n v : Nat}

theorem holdsAt_self (bs : List Byte) : holdsAt (listSrc bs) 0 bs := fun j _ => by rw [Nat.zero_add]; rfl

theorem holdsAt_append (as bs : List Byte) :
    holdsAt src o (as ++ bs) ↔ holdsAt src o as ∧ holdsAt src (o + as.length) bs := by
  constructor
  · refine fun h => ⟨fun j hj => ?_, fun j hj => ?_⟩
    · exact (h j (by rw [List.length_append]; omega)).trans (List.getD_append _ _ _ _ hj)
    · have hright := h (as.length + j) (by rw [List.length_append]; omega)
      rwa [List.getD_append_right _ _ _ _ (by omega), Nat.add_sub_cancel_left, ← Nat.add_assoc] at hright
  · rintro ⟨hleft, hright⟩ j hj
    rw [List.length_append] at hj
    by_cases hlt : j < as.length
    · exact (hleft j hlt).trans (List.getD_append _ _ _ _ hlt).symm
    · have hj' := hright (j - as.length) (by omega)
      rw [Nat.add_assoc, Nat.add_sub_cancel' (by omega)] at hj'
      exact hj'.trans (List.getD_append_right _ _ _ _ (by omega)).symm

theorem holdsAt_cons (b : Byte) (bs : List Byte) : holdsAt src o (b :: bs) ↔ src o = b ∧ holdsAt src (o + 1) bs := by
  rw [← List.singleton_append, holdsAt_append]
  refine and_congr_left fun _ => ⟨fun h => h 0 Nat.one_pos, fun h j hj => ?_⟩
  obtain rfl : j = 0 := by simpa using hj
  exact h

theorem length_padTo {bs : List Byte} (h : bs.length ≤ n) : (padTo n bs).length = n := by
  rw [padTo, List.length_append, List.length_replicate, Nat.add_sub_cancel' h]

theorem holdsAt_padTo {bs : List Byte} (h : holdsAt src o (padTo n bs)) : holdsAt src o bs := ((holdsAt_append _ _).1 h).1

/-- Items of one size, one after the other. -/
theorem holdsAt_flatMap {α : Type} {f : α → List Byte} (hf : ∀ x, (f x).length = n) : ∀ {xs : List α} {o : Nat},
    holdsAt src o (xs.flatMap f) → ∀ (i : Nat) (x : α), xs[i]? = some x → holdsAt src (o + n * i) (f x)
  | [], _, _, _, _, hx => absurd hx (by simp)
  | x :: xs, o, h, 0, y, hy => by
    rw [List.flatMap_cons, holdsAt_append] at h
    cases hy
    exact h.1
  | x :: xs, o, h, i + 1, y, hy => by
    rw [List.flatMap_cons, holdsAt_append, hf] at h
    have hrest := holdsAt_flatMap hf h.2 i y hy
    have hindex : o + n + n * i = o + n * (i + 1) := by ring
    rwa [hindex] at hrest

theorem length_flatMap {α : Type} {f : α → List Byte} (hf : ∀ x, (f x).length = n) (xs : List α) :
    (xs.flatMap f).length = n * xs.length := by
  induction xs with
  | nil => rfl
  | cons x xs ih => rw [List.flatMap_cons, List.length_append, hf, ih, List.length_cons, Nat.mul_add_one, Nat.add_comm]

theorem get8_of {b : Byte} (h : holdsAt src o [b]) : src o = b := ((holdsAt_cons _ _).1 h).1

theorem get16_of (h : holdsAt src o (leBytes 2 v)) : get16 src o = v % 2 ^ 16 := by
  simp only [leBytes, holdsAt_cons] at h
  obtain ⟨h0, h1, -⟩ := h
  rw [get16, get8, get8, h0, h1, BitVec.toNat_ofNat, BitVec.toNat_ofNat]
  omega

theorem get32_of (h : holdsAt src o (leBytes 4 v)) : get32 src o = v % 2 ^ 32 := by
  simp only [leBytes, holdsAt_cons] at h
  obtain ⟨h0, h1, h2, h3, -⟩ := h
  rw [get32_bytes, h0, h1, h2, h3]
  simp only [BitVec.toNat_ofNat]
  omega

theorem get32_word {g : Word} (h : holdsAt src o (leBytes 4 g.toNat)) : get32 src o = g.toNat :=
  (get32_of h).trans (Nat.mod_eq_of_lt g.isLt)

theorem get32_int {x : Int} (h : holdsAt src o (leInt 4 x)) : get32 src o = (BitVec.ofInt 32 x).toNat :=
  get32_word (g := BitVec.ofInt 32 x) h

theorem get16_int {x : Int} (h : holdsAt src o (leInt 2 x)) : get16 src o = (BitVec.ofInt 16 x).toNat :=
  (get16_of h).trans (Nat.mod_eq_of_lt (BitVec.ofInt 16 x).isLt)

theorem length_binBytes (v : Vector Int 64) : (binBytes v).length = 256 := by
  rw [binBytes, length_flatMap (leInt_length 4), Vector.length_toList]

theorem get32_bin {v : Vector Int 64} (h : holdsAt src o (binBytes v)) (b : BinCode) :
    get32 src (o + 4 * b.val) = (BitVec.ofInt 32 v[b]).toNat :=
  get32_int (holdsAt_flatMap (leInt_length 4) h b.val v[b] (toList_get v b))

end

/-! ### Map rows -/

theorem ofHalfword_eq {c : MapCell} {w : Nat} (h : w % 2 ^ 14 = c.halfword) : MapCell.ofHalfword w = c := by
  obtain ⟨state, code, touches, site⟩ := c
  have hcode := code.isLt
  have htouches := touches.isLt
  have hsite := site.isLt
  have hstate : state.code < 4 := by cases state <;> decide
  have hw : w % 2 ^ 14 = code.val + 64 * touches.val + 256 * site.val + 4096 * state.code := h
  have hstateCode : w / 4096 % 4 = state.code := by omega
  unfold MapCell.ofHalfword
  rw [hstateCode, MapCell.mk.injEq]
  refine ⟨by cases state <;> rfl, Fin.ext ?_, Fin.ext ?_, Fin.ext ?_⟩
  · show w % 64 = code.val
    omega
  · show w / 64 % 4 = touches.val
    omega
  · show w / 256 % 16 = site.val
    omega

/-- Settles O37. -/
theorem mapRowRoundTrip : Obligations.MapRowRoundTrip := by
  refine ⟨fun c => ⟨rfl, halfword_lt c⟩, fun c w h => ofHalfword_eq h, fun cells => ⟨?_, ?_⟩⟩
  · exact length_flatMap (fun c => leBytes_length 2 _) cells
  · refine List.ext_getElem (by simp [rowOf]) fun x hx hx' => ?_
    have hcell := holdsAt_flatMap (fun c : MapCell => leBytes_length 2 c.halfword) (holdsAt_self (rowBytes cells)) x cells[x]
      (List.getElem?_eq_getElem hx')
    have hlt := halfword_lt cells[x]
    rw [Nat.zero_add] at hcell
    simp only [rowOf, List.getElem_map, List.getElem_range]
    refine ofHalfword_eq ?_
    show get16 (listSrc (rowBytes cells)) (2 * x) % 2 ^ 14 = _
    rw [get16_of hcell]
    omega

/-! ### Monitor sets -/

section

variable {src : Nat → Byte} {o : Nat}

theorem leBytes_bit {n v i : Nat} (hi : i < n) {j : Nat} (hj : j < 8) :
    ((leBytes n v).getD i 0).getLsbD j = v.testBit (8 * i + j) := by
  have hlen : i < (leBytes n v).length := by rwa [leBytes_length]
  have hpow : (256 : Nat) ^ i = 2 ^ (8 * i) := by rw [pow_mul]; rfl
  rw [List.getD_eq_getElem _ _ hlen, leBytes_getElem, BitVec.getLsbD_ofNat, hpow, ← Nat.shiftRight_eq_div_pow, Nat.testBit_shiftRight,
    decide_eq_true hj, Bool.true_and]

/-- A bit of a packed table of flags. -/
theorem packed_bit {n k : Nat} {v : Vector Bool k} (h : holdsAt src o (leBytes n (packBits v.toList))) (hk : k ≤ 8 * n)
    (b : Fin k) : (src (o + b.val / 8)).getLsbD (b.val % 8) = v[b] := by
  have hb := b.isLt
  have hsplit : 8 * (b.val / 8) + b.val % 8 = b.val := by omega
  rw [h (b.val / 8) (by rw [leBytes_length]; omega), leBytes_bit (by omega) (Nat.mod_lt _ (by omega)), hsplit,
    packBits_testBit, toList_getD]

theorem MonitorSet.length_bytes (m : MonitorSet) : m.bytes.length = 16 := by
  refine length_padTo ?_
  simp only [List.length_append, leBytes_length, List.length_singleton]
  omega

/-- The parts of a monitor set. -/
theorem MonitorSet.parts (m : MonitorSet) (h : holdsAt src o m.bytes) : holdsAt src o (leBytes 8 (packBits m.bins.toList)) ∧
    holdsAt src (o + 8) (leBytes 2 (packBits m.sites.toList)) ∧
    src (o + 10) = BitVec.ofNat 8 (packBits [m.floor, m.gap, m.idle, m.trend]) ∧
    ∀ j, 11 ≤ j → j < 16 → src (o + j) = 0 := by
  unfold MonitorSet.bytes padTo at h
  simp only [holdsAt_append, holdsAt_cons, List.length_append, leBytes_length, List.length_singleton] at h
  obtain ⟨⟨⟨hbins, hsites⟩, hflags, -⟩, hrest⟩ := h
  refine ⟨hbins, hsites, hflags, fun j hlow hhigh => ?_⟩
  have hzero := hrest (j - 11) (by rw [List.length_replicate]; omega)
  rw [Nat.add_assoc, Nat.add_sub_cancel' hlow] at hzero
  rw [hzero, List.getD_eq_getElem?_getD, List.getElem?_replicate]
  split <;> rfl

end

/-! ### Live blocks -/

section

variable {src : Nat → Byte} {c : Ctx}

theorem rowCount_le (c : Ctx) : c.rowCount ≤ 512 := List.countP_le_length.trans_eq c.rowsDone.length_toList

theorem decide_toNat (p : Prop) [Decidable p] : (decide p).toNat = if p then 1 else 0 := by
  by_cases h : p
  · rw [decide_eq_true h, if_pos h]
    rfl
  · rw [decide_eq_false h, if_neg h]
    rfl

theorem liveContents_length (c : Ctx) : c.liveContents.length = 316 := by
  simp only [Ctx.liveContents, List.length_append, leBytes_length, leInt_length, MonitorSet.length_bytes, length_binBytes]

/-- Table 10-7, the live block. -/
theorem liveContents_fields (h : holdsAt src 0 c.liveContents) : get32 src 0 = c.tested % 2 ^ 32 ∧
    get32 src 4 = (BitVec.ofInt 32 c.good).toNat ∧
    get32 src 8 = (BitVec.ofInt 16 (waferYield c)).toNat + 65536 * (if c.tested = 0 then 1 else 0) ∧
    get32 src 12 = c.touches % 2 ^ 32 ∧ get32 src 16 = c.retests % 2 ^ 32 ∧ get32 src 20 = c.lastTouch.toNat ∧
    get32 src 24 = c.rowCount ∧ holdsAt src 28 c.active.bytes ∧ holdsAt src 44 c.latched.bytes ∧
    holdsAt src 60 (binBytes c.bins) := by
  simp only [Ctx.liveContents, holdsAt_append, List.length_append, leBytes_length, leInt_length, MonitorSet.length_bytes,
    Nat.zero_add, Nat.reduceAdd] at h
  obtain ⟨⟨⟨⟨⟨⟨⟨⟨⟨⟨htested, hgood⟩, hyield⟩, hempty⟩, htouches⟩, hretests⟩, hlast⟩, hrows⟩, hactive⟩, hlatched⟩, hbins⟩ := h
  have hcount := rowCount_le c
  have hflag := get16_of hempty
  rw [decide_toNat] at hflag
  refine ⟨get32_of htested, get32_int hgood, ?_, get32_of htouches, get32_of hretests, get32_word hlast, ?_, hactive, hlatched,
    hbins⟩
  · show get16 src 8 + 65536 * get16 src 10 = _
    rw [get16_int hyield, hflag]
    split <;> rfl
  · exact (get32_of hrows).trans (Nat.mod_eq_of_lt (by omega))

/-- A byte of packed flags. -/
theorem flagByte_bit (bs : List Bool) {j : Nat} (hj : j < 8) : (BitVec.ofNat 8 (packBits bs)).getLsbD j = bs.getD j false := by
  rw [BitVec.getLsbD_ofNat, packBits_testBit, decide_eq_true hj, Bool.true_and]

/-- The set layout of Table 10-7. -/
theorem MonitorSet.layout (m : MonitorSet) :
    (∀ b : BinCode, (m.bytes.getD (b.val / 8) 0).getLsbD (b.val % 8) = m.bins[b]) ∧
    (∀ i : SiteId, (m.bytes.getD (8 + i.val / 8) 0).getLsbD (i.val % 8) = m.sites[i]) ∧
    m.bytes.getD 10 0 = BitVec.ofNat 8 (packBits [m.floor, m.gap, m.idle, m.trend]) ∧
    ∀ o, 11 ≤ o → m.bytes.getD o 0 = 0 := by
  obtain ⟨hbins, hsites, hflags, hrest⟩ := m.parts (holdsAt_self m.bytes)
  refine ⟨fun b => ?_, fun i => packed_bit hsites (by omega) i, hflags, fun o ho => ?_⟩
  · have hbit := packed_bit hbins (by omega) b
    rw [Nat.zero_add] at hbit
    exact hbit
  · by_cases hlt : o < 16
    · have hzero := hrest o ho hlt
      rw [Nat.zero_add] at hzero
      exact hzero
    · rw [List.getD_eq_default _ _ (by rw [m.length_bytes]; omega)]

end

/-! ### Rewrites -/

section

variable {s : State} {k : CtxId}

/-- The state in which the last write of a rewrite has been stored and its job is done. -/
def State.rewriteStored (s : State) (k : CtxId) (rest : List SlotJob) : State :=
  { s.store (s.slotAddr k + 64) (leBytes 4 (s.ctxs[k].generation + 2).toNat) with
    ctxs := modAt s.ctxs k fun c => { c with generation := c.generation + 2, jobs := rest, slotPhase := none } }

theorem rewriteStored_ctx (s : State) (k : CtxId) (rest : List SlotJob) : (s.rewriteStored k rest).ctxs[k] =
    { s.ctxs[k] with generation := s.ctxs[k].generation + 2, jobs := rest, slotPhase := none } := modAt_get_self s.ctxs k _

theorem exec_liveBlockWritten (hworking : s.engine.run = .running ∨ s.engine.run = .draining) {why : RewriteFor}
    {rest : List SlotJob} (hphase : s.ctxs[k].slotPhase = some .genEven) (hjobs : s.ctxs[k].jobs = .rewrite why :: rest) :
    exec (.liveBlockWritten k) s = .next (announce s (((s.rewriteStored k rest).afterRewrite k why).kickSlot k)) := by
  have hdone : ((s.store (s.slotAddr k + 64) (leBytes 4 (s.ctxs[k].generation + 2).toNat)).modCtx k fun c =>
      { c with generation := c.generation + 2 }).dropJob k = s.rewriteStored k rest := rewriteDone_eq hjobs
  rw [← hdone]
  show execLiveBlockWritten k s = _
  rw [execLiveBlockWritten, State.slotWrite, hphase, hjobs]
  exact if_pos (working_of hworking)

/-- What keeps the notices, the controls and the indicators raises no message. -/
theorem announce_kept {t u : State} (hnotices : t.notices = s.notices) (hkept : t.base = u.base) (hcontrol : u.control = s.control)
    (hflags : u.flags = s.flags) : announce s t = t := by
  have htcontrol : t.control = u.control := congrArg Base.control hkept
  have htflags : t.flags = u.flags := congrArg Base.flags hkept
  exact announce_quiet s t hnotices (by rw [htcontrol, hcontrol]) (by rw [htflags, hflags]) (by rw [htflags, hflags])

/-- The next write of a slot sets no flag. -/
theorem kickSlot_silent {u : State} (hnotices : u.notices = s.notices) (hcontrol : u.control = s.control)
    (hflags : u.flags = s.flags) : announce s (u.kickSlot k) = u.kickSlot k :=
  announce_kept ((u.kickSlot_notices k).trans hnotices) (u.kickSlot_base k) hcontrol hflags

theorem startsNext_begins {t : State} (h : s.startsNext t k) (hjobs : s.ctxs[k].jobs ≠ []) : t.ctxs[k].slotPhase ≠ none := by
  unfold State.startsNext at h
  have hphase : t.ctxs[k].slotPhase = match s.ctxs[k].jobs with
      | [] => none
      | .rewrite _ :: _ => some (.genOdd s.ctxs[k].liveContents)
      | .summary :: _ => some .summary
      | .posted :: _ => some .posted := by
    rw [h]
    exact congrArg Ctx.slotPhase (modAt_get_self s.ctxs k _)
  rw [hphase]
  cases hlist : s.ctxs[k].jobs with
  | nil => exact absurd hlist hjobs
  | cons j js => cases j <;> exact nofun

/-- A job that falls due in a slot with no write in flight begins at once, or another does. -/
theorem addJob_begins (hphase : s.ctxs[k].slotPhase = none) (hheld : s.slotHeld k = false) (j : SlotJob) :
    (s.addJob k j).ctxs[k].slotPhase ≠ none := by
  have hctx := modCtx_get s k fun c => { c with jobs := c.jobs ++ [j] }
  refine startsNext_begins (s := s.modCtx k fun c => { c with jobs := c.jobs ++ [j] })
    (startsNext_kickSlot (by rw [hctx]; exact hphase) hheld) ?_
  rw [hctx]
  exact List.append_ne_nil_of_right_ne_nil _ (List.cons_ne_nil j [])

section

variable {rest : List SlotJob}

theorem rewriteStored_idle : (s.rewriteStored k rest).ctxs[k].slotPhase = none := by rw [rewriteStored_ctx]

theorem rewriteStored_held (hfree : s.slotFree k) : (s.rewriteStored k rest).slotHeld k = false := by
  have hheld : s.slotHeld k = false := slotHeld_of_free hfree
  exact hheld

theorem rewrittenNothing (hfree : s.slotFree k) : State.startsNext (s.rewriteStored k rest)
    (announce s (((s.rewriteStored k rest).afterRewrite k .nothing).kickSlot k)) k := by
  show State.startsNext _ (announce s ((s.rewriteStored k rest).kickSlot k)) k
  rw [kickSlot_silent (s := s) (u := s.rewriteStored k rest) (k := k) rfl rfl rfl]
  exact startsNext_kickSlot rewriteStored_idle (rewriteStored_held hfree)

/-- A record that waited for the rewrite goes on to its disposition. -/
theorem rewrittenMerge {m : Merge} {w : Option Word} {code : Byte} {phase : MergePhase} (hmerge : s.merge = some m)
    (hawait : m.phase = .awaitLive w code)
    (hphase : (s.rewriteStored k rest).conclude m w code =
      { s.rewriteStored k rest with merge := some { m with phase := phase } })
    (hheld : phase.holdsSlot k = false) :
    State.startsNext { s.rewriteStored k rest with merge := some { m with phase := phase } }
      (announce s (((s.rewriteStored k rest).afterRewrite k .merge).kickSlot k)) k := by
  have hmerge' : (s.rewriteStored k rest).merge = some m := hmerge
  rw [State.afterRewrite, hmerge']
  dsimp only
  rw [hawait]
  dsimp only
  rw [hphase]
  have hidle : ({ s.rewriteStored k rest with merge := some { m with phase := phase } } : State).ctxs[k].slotPhase = none :=
    rewriteStored_idle
  generalize hu : ({ s.rewriteStored k rest with merge := some { m with phase := phase } } : State) = u at hidle ⊢
  have hnotices : u.notices = s.notices := by rw [← hu]; rfl
  have hcontrol : u.control = s.control := by rw [← hu]; rfl
  have hflags : u.flags = s.flags := by rw [← hu]; rfl
  have hheld' : u.slotHeld k = false := by rw [← hu]; exact hheld
  rw [kickSlot_silent hnotices hcontrol hflags]
  exact startsNext_kickSlot hidle hheld'

theorem closeTotals_begins (hphase : s.ctxs[k].slotPhase = none) (hheld : s.slotHeld k = false) :
    (s.closeTotals k).ctxs[k].slotPhase ≠ none := by
  unfold State.closeTotals
  exact addJob_begins (s := { s.modLot s.ctxs[k].lot (Lot.add · s.ctxs[k]) with closeUnit := .summary }) hphase hheld .summary

theorem rewrittenClose (hfree : s.slotFree k) : announce s (((s.rewriteStored k rest).afterRewrite k .closeStep).kickSlot k) =
    (s.rewriteStored k rest).closeTotals k := by
  have hbegun := closeTotals_begins (s := s.rewriteStored k rest) (k := k) rewriteStored_idle (rewriteStored_held hfree)
  rw [State.afterRewrite, kickSlot_busy hbegun]
  exact announce_kept (State.addJob_notices _ k .summary) (State.closeTotals_base _ k) rfl rfl

end

theorem rewrite_frame (s : State) (k : CtxId) (why : RewriteFor) : s.rewrite k why = { s with ctxs := (s.rewrite k why).ctxs } ∧
    (∀ k' : CtxId, k' ≠ k → (s.rewrite k why).ctxs[k'] = s.ctxs[k']) ∧
    (s.rewrite k why).ctxs[k] = { s.ctxs[k] with
      jobs := s.ctxs[k].jobs ++ [.rewrite why], slotPhase := ((s.rewrite k why).ctxs[k]).slotPhase } := by
  obtain ⟨p, hp⟩ := addJob_eq s k (.rewrite why)
  have hrewrite : s.rewrite k why = s.modCtx k fun c => { c with jobs := c.jobs ++ [.rewrite why], slotPhase := p } := hp
  rw [hrewrite, modCtx_get]
  exact ⟨rfl, fun k' hk' => modAt_ne s.ctxs k k' _ hk', rfl⟩

theorem rewrite_waits (hphase : s.ctxs[k].slotPhase ≠ none) (why : RewriteFor) :
    ((s.rewrite k why).ctxs[k]).slotPhase = s.ctxs[k].slotPhase := by
  have hctx := modCtx_get s k fun c => { c with jobs := c.jobs ++ [.rewrite why] }
  have hbusy : s.rewrite k why = s.modCtx k fun c => { c with jobs := c.jobs ++ [.rewrite why] } :=
    kickSlot_busy (by rw [hctx]; exact hphase)
  rw [hbusy, hctx]

end

/-- Settles O41. -/
theorem liveBlockAndLayout : Obligations.LiveBlockAndLayout := by
  refine ⟨fun k s => ⟨fun why => ?_, fun hworking => ?_⟩, fun c => ?_, fun m => ?_⟩
  · obtain ⟨hframe, hother, hself⟩ := rewrite_frame s k why
    exact ⟨_, rfl, hframe, hother, hself, fun hphase => rewrite_waits hphase why,
      fun hphase hjobs hfree => rewrite_begins hphase hjobs (slotHeld_of_free hfree) why⟩
  · intro a word
    have hw := working_of hworking
    refine ⟨fun bs hphase => ?_, fun bs hphase => ?_, fun why rest hphase hjobs hfree => ?_⟩
    · have hexec : exec (.liveGenOddWritten k) s = .next ((s.store (a + 64) (leBytes 4 (s.ctxs[k].generation + 1).toNat)).modCtx k
          fun c => { c with slotPhase := some (.contents bs) }) := by
        show execLiveGenOddWritten k s = _
        rw [execLiveGenOddWritten, State.slotWrite, hphase]
        exact if_pos hw
      rw [leBytes_four] at hexec
      exact ⟨_, hexec, rfl, stores_of rfl rfl⟩
    · have hexec : exec (.liveContentsWritten k) s = .next ((s.store (a + 68) bs).modCtx k
          fun c => { c with slotPhase := some .genEven }) := by
        show execLiveContentsWritten k s = _
        rw [execLiveContentsWritten, State.slotWrite, hphase]
        exact if_pos hw
      exact ⟨_, hexec, rfl, stores_of rfl rfl⟩
    · refine ⟨_, s.rewriteStored k rest, exec_liveBlockWritten hworking hphase hjobs, ?_, rfl, fun hwhy => ?_,
        fun m word code hwhy hmerge hawait => ?_, fun m code hwhy hmerge hawait => ?_, fun hwhy => ?_⟩
      · have hstored : s.stores (s.rewriteStored k rest) (a + 64) (leBytes 4 (s.ctxs[k].generation + 2).toNat) :=
          stores_of rfl rfl
        rewrite [leBytes_four] at hstored
        exact hstored
      all_goals subst hwhy
      · exact rewrittenNothing hfree
      · exact rewrittenMerge hmerge hawait rfl rfl
      · exact rewrittenMerge hmerge hawait rfl rfl
      · exact rewrittenClose hfree
  · intro w
    obtain ⟨htested, hgood, hyield, htouches, hretests, hlast, hrows, hactive, hlatched, hbins⟩ :=
      liveContents_fields (holdsAt_self c.liveContents)
    refine ⟨liveContents_length c, htested, hgood, hyield, htouches, hretests, hlast, hrows, fun i hi => ⟨?_, ?_⟩,
      fun b => get32_bin hbins b⟩
    · exact hactive i (by rw [MonitorSet.length_bytes]; exact hi)
    · exact hlatched i (by rw [MonitorSet.length_bytes]; exact hi)
  · intro byte
    obtain ⟨hbins, hsites, hflags, hrest⟩ := m.layout
    have hbyte : byte 10 = BitVec.ofNat 8 (packBits [m.floor, m.gap, m.idle, m.trend]) := hflags
    refine ⟨m.length_bytes, hbins, hsites, ?_, ?_, ?_, ?_, ?_, hrest⟩
    · rw [hbyte, flagByte_bit _ (by omega)]
      rfl
    · rw [hbyte, flagByte_bit _ (by omega)]
      rfl
    · rw [hbyte, flagByte_bit _ (by omega)]
      rfl
    · rw [hbyte, flagByte_bit _ (by omega)]
      rfl
    · have hlt : packBits [m.floor, m.gap, m.idle, m.trend] < 16 := packBits_lt _
      rw [hbyte, BitVec.toNat_ofNat]
      omega

end Sys2Proof.Machine
end

section
/-!
PROOFS. The Close Unit: how an item begins, the writes of a context's item and of a lot entry's item, the release of a pin,
and the layouts of the summary block and the lot summary. They settle O46, O47 and O29.
-/

namespace Sys2Proof.Machine

/-! ### How an item begins -/

section

variable {s : State} {k : CtxId}

theorem serve_busy (h : s.closeUnit ≠ .idle ∨ s.closeQ = []) : s.serve = s := by
  unfold State.serve
  split
  · next hidle =>
    rw [h.resolve_left (absurd hidle)]
  · rfl

theorem serve_ctx {q : List CloseItem} (hidle : s.closeUnit = .idle) (hq : s.closeQ = .ctx k :: q) :
    s.serve = s.beginCtxItem k := by
  rw [State.serve, if_pos hidle, hq]

theorem serve_lot {i : LotId} {q : List CloseItem} (hidle : s.closeUnit = .idle) (hq : s.closeQ = .lot i :: q) :
    s.serve = s.beginLotItem i := by
  rw [State.serve, if_pos hidle, hq]

theorem beginCtxItem_window (hdirty : s.ctxs[k].dirty = true ∨ s.ctxs[k].drainWrite = true) (hwin : s.ctxs[k].winRow ≠ none) :
    s.beginCtxItem k = { s with closeUnit := .window } := by
  refine if_pos ?_
  rw [Bool.and_eq_true, Bool.or_eq_true]
  exact ⟨hdirty, Option.isSome_iff_ne_none.2 hwin⟩

theorem beginCtxItem_rows (h : s.ctxs[k].dirty = false ∧ s.ctxs[k].drainWrite = false ∨ s.ctxs[k].winRow = none) :
    s.beginCtxItem k = s.closeRows k := by
  refine if_neg ?_
  rw [Bool.and_eq_true, Bool.or_eq_true]
  rintro ⟨hdirty, hwin⟩
  rcases h with ⟨hclean, hdrain⟩ | hnone
  · rw [hclean, hdrain] at hdirty
    exact hdirty.elim nofun nofun
  · exact Option.isSome_iff_ne_none.1 hwin hnone

theorem find_rowIds (r : Recipe) (p : RowId → Bool) :
    (rowIds r).find? p = (List.finRange 512).find? fun y => decide (y.val < r.rows) && p y := by
  rw [rowIds, List.find?_filter]
  refine congrArg (fun q => (List.finRange 512).find? q) (funext fun y => ?_)
  rw [Bool.decide_and, Bool.decide_eq_true, Bool.decide_eq_true]

theorem closeRows_next {y : RowId} (hy : y.val < (s.recipeFor k).rows) (hmissing : s.ctxs[k].rowsDone[y] = false)
    (hbefore : ∀ y' < y, s.ctxs[k].rowsDone[y'] = true) : s.closeRows k = { s with closeUnit := .rows y } := by
  unfold State.closeRows
  rw [find_rowIds, find_first 512 _ y (by rw [hmissing, decide_eq_true hy]; rfl) fun y' hy' => by
    rw [hbefore y' hy', Bool.not_true, Bool.and_false]]

theorem closeRows_done (h : ∀ y : RowId, y.val < (s.recipeFor k).rows → s.ctxs[k].rowsDone[y] = true) :
    s.closeRows k = s.closeTrend k := by
  unfold State.closeRows
  rw [find_rowIds, find_none_of 512 _ fun y => ?_]
  by_cases hy : y.val < (s.recipeFor k).rows
  · rw [h y hy, Bool.not_true, Bool.and_false]
  · rw [decide_eq_false hy, Bool.false_and]

/-! ### The trend step -/

/-- The trend words of a closing context's recipe are updated (R61). -/
def State.trendTaken (s : State) (k : CtxId) : State :=
  s.modEntry s.ctxs[k].entry (CacheEntry.trendUpdated (s.recipeFor k) s.ctxs[k])

/-- TREND_LOW is latched in a closing context. -/
def State.trendLatched (s : State) (k : CtxId) : State :=
  s.modCtx k fun c => { c with latched := { c.latched with trend := true } }

theorem trendTaken_eq (s : State) (k : CtxId) : s.trendTaken k = { s with
    cache := modAt s.cache s.ctxs[k].entry fun n => { n with
      trendE := trendNext (s.recipeFor k) s.ctxs[k] (s.cache[s.ctxs[k].entry]).trendE (s.cache[s.ctxs[k].entry]).trendCnt
      trendCnt := min ((s.cache[s.ctxs[k].entry]).trendCnt + 1) 65535, dirty := true } } := by
  unfold State.trendTaken State.modEntry
  exact congrArg (fun cache => { s with cache := cache }) (modAt_congr s.cache _ _ _ rfl)

theorem closeTrend_small (h : s.ctxs[k].tested < (s.recipeFor k).minSample) : s.closeTrend k = s.closeTotals k :=
  if_neg fun hmet => absurd (of_decide_eq_true hmet) (Nat.not_le.2 h)

section

variable (hmet : (s.recipeFor k).minSample ≤ s.ctxs[k].tested)

include hmet

theorem closeTrend_level (hlow : trendLow (s.recipeFor k) s.ctxs[k] (s.cache[s.ctxs[k].entry]).trendE
    (s.cache[s.ctxs[k].entry]).trendCnt = false) : s.closeTrend k = (s.trendTaken k).closeTotals k := by
  unfold State.closeTrend State.entryOf
  dsimp only
  rw [if_pos (show sampleMet _ _ = true from decide_eq_true hmet), hlow]
  rfl

theorem closeTrend_low (hlow : trendLow (s.recipeFor k) s.ctxs[k] (s.cache[s.ctxs[k].entry]).trendE
    (s.cache[s.ctxs[k].entry]).trendCnt = true) : s.closeTrend k =
    let t := ((s.trendTaken k).trendLatched k).raiseEvents s.ctxs[k].lane (s.recipeFor k) [⟨.trendLow, true⟩]
    if (s.recipeFor k).assertMask.trendLow then { t with closeUnit := .trendRewrite }.rewrite k .closeStep
    else t.closeTotals k := by
  unfold State.closeTrend State.entryOf
  dsimp only
  rw [if_pos (show sampleMet _ _ = true from decide_eq_true hmet), if_pos hlow]
  rfl

end

theorem raiseTrend_masked {r : Recipe} (h : r.assertMask.trendLow = false) (l : LaneId) :
    s.raiseEvents l r [⟨.trendLow, true⟩] = s := by
  have henabled : [(⟨.trendLow, true⟩ : Event)].any (Event.enabled r) = false := (Bool.or_false _).trans h
  have hholds : [(⟨.trendLow, true⟩ : Event)].any (Event.holds r) = false := by
    show (true && r.assertMask.trendLow && _ || false) = false
    rw [h]
    rfl
  rw [raiseEvents_eq, henabled, hholds]
  rfl

theorem raiseTrend_enabled {r : Recipe} (h : r.assertMask.trendLow = true) (l : LaneId) :
    s.raiseEvents l r [⟨.trendLow, true⟩] = { s with
      notices := modAt s.notices l fun n => { n with alarm := true }
      lanes := if r.holdMask.trendLow = true then modAt s.lanes l fun n => { n with hold := true } else s.lanes } := by
  have henabled : [(⟨.trendLow, true⟩ : Event)].any (Event.enabled r) = true := (Bool.or_false _).trans h
  have hholds : [(⟨.trendLow, true⟩ : Event)].any (Event.holds r) = r.holdMask.trendLow := by
    show (true && r.assertMask.trendLow && r.holdMask.trendLow || false) = _
    rw [h, Bool.or_false]
    rfl
  rw [raiseEvents_eq, henabled, hholds]
  rfl

/-! ### The totals -/

theorem addJob_idle (hphase : s.ctxs[k].slotPhase = none) (hjobs : s.ctxs[k].jobs = []) (hheld : s.slotHeld k = false)
    (j : SlotJob) : s.addJob k j = s.modCtx k fun c => { c with jobs := [j], slotPhase := some (beginJob c j) } := by
  have hctx := modCtx_get s k fun c => { c with jobs := c.jobs ++ [j] }
  have hadded : (s.modCtx k fun c => { c with jobs := c.jobs ++ [j] }).ctxs[k].jobs = [j] := by
    rw [hctx, hjobs]
    rfl
  have hidle : (s.modCtx k fun c => { c with jobs := c.jobs ++ [j] }).ctxs[k].slotPhase = none := by
    rw [hctx]
    exact hphase
  unfold State.addJob State.kickSlot
  rw [hadded, hidle]
  dsimp only
  rw [if_neg (show ¬ State.slotHeld (s.modCtx k _) k = true from Bool.eq_false_iff.1 hheld), modCtx_modCtx]
  unfold State.modCtx
  rw [modAt_congr s.ctxs k _ (fun c => { c with jobs := [j], slotPhase := some (beginJob c j) })]
  dsimp only
  rw [hjobs]
  rfl

theorem closeTotals_idle (hphase : s.ctxs[k].slotPhase = none) (hjobs : s.ctxs[k].jobs = []) (hheld : s.slotHeld k = false) :
    s.closeTotals k = { s with
      closeUnit := .summary
      lots := modAt s.lots s.ctxs[k].lot fun t => { t with
        tested := t.tested + s.ctxs[k].tested
        good := t.good + s.ctxs[k].good
        bins := Vector.ofFn fun b => t.bins[b] + s.ctxs[k].bins[b] }
      ctxs := modAt s.ctxs k fun c => { c with jobs := [.summary], slotPhase := some .summary } } := by
  have hadded := addJob_idle (s := { s.modLot s.ctxs[k].lot (Lot.add · s.ctxs[k]) with closeUnit := .summary })
    hphase hjobs hheld .summary
  exact hadded

/-! ### Lot items -/

theorem lotLow_iff (t : Lot) : lotLow t = true ↔ 0 < t.floor ∧ t.tested ≠ 0 ∧ t.good * 10000 / (t.tested : Int) < t.floor ∨
    0 < t.floor ∧ t.tested = 0 := by
  unfold lotLow lotYield
  rw [Bool.and_eq_true, decide_eq_true_eq, decide_eq_true_eq]
  by_cases h : t.tested = 0
  · rw [if_pos h]
    simp [h]
  · rw [if_neg h]
    simp [h]

theorem beginLotItem_low {i : LotId} (h : lotLow s.lots[i] = true) : s.beginLotItem i = { s with
    closeUnit := .lotSummary
    lots := modAt s.lots i fun t => { t with lowFlag := true }
    notices := if (s.lots[i]).assertFlag = true then modAt s.notices (s.lots[i]).endingLane fun n => { n with alarm := true }
      else s.notices
    lanes := if (s.lots[i]).assertFlag = true ∧ (s.lots[i]).holdFlag = true then
        modAt s.lanes (s.lots[i]).endingLane fun n => { n with hold := true }
      else s.lanes } := by
  refine (if_pos h).trans ?_
  cases (s.lots[i]).assertFlag <;> cases (s.lots[i]).holdFlag <;> rfl

end

/-- Settles O46. -/
theorem closeItemBegins : Obligations.CloseItemBegins := by
  intro s
  refine ⟨serve_busy, fun k q hidle hq => ?_, fun k hjobs hphase hfree => closeTotals_idle hphase hjobs (slotHeld_of_free hfree),
    fun i q hidle hq => ?_⟩
  · rw [serve_ctx hidle hq]
    refine ⟨beginCtxItem_window, fun y hsettled hy hmissing hbefore => ?_, fun hsettled hdone => ?_⟩
    · rw [beginCtxItem_rows hsettled]
      exact closeRows_next hy hmissing hbefore
    · rw [beginCtxItem_rows hsettled, closeRows_done hdone]
      refine ⟨closeTrend_small, fun hmet => ⟨fun hlow => ?_, fun hlow hmask => ?_, fun hlow hmask => ?_⟩⟩
      · rw [closeTrend_level hmet hlow, trendTaken_eq]
      · rw [closeTrend_low hmet hlow, raiseTrend_masked hmask, hmask, trendTaken_eq]
        rfl
      · rw [closeTrend_low hmet hlow, raiseTrend_enabled hmask, hmask, trendTaken_eq]
        rfl
  · rw [serve_lot hidle hq]
    exact ⟨fun hlow => if_neg (mt (lotLow_iff _).1 hlow), fun hlow => beginLotItem_low ((lotLow_iff _).2 hlow)⟩

/-! ### The layouts of the two summaries -/

section

variable {src : Nat → Byte} {o : Nat}

theorem get8_byte {v : Nat} (h : holdsAt src o (leBytes 1 v)) : get8 src o = v % 2 ^ 8 := by
  rw [get8, get8_of h, BitVec.toNat_ofNat]

theorem closeCause_code_lt (c : CloseCause) : c.code < 4 := by cases c <;> decide

theorem summary_length (c : Ctx) (lot : Word) (e : Int) : (c.summary lot e).length = 440 := by
  simp only [Ctx.summary, List.length_append, leBytes_length, leInt_length, MonitorSet.length_bytes, length_binBytes]
  rw [length_flatMap (n := 8) (fun _ => rfl), List.length_finRange]

/-- Table 10-7, the summary block. -/
theorem summary_fields {c : Ctx} {lot : Word} {e : Int} (h : holdsAt src 0 (c.summary lot e)) : get32 src 0 = lot.toNat ∧
    get32 src 4 = c.tag.toNat ∧ get32 src 8 = c.recipeNumber % 2 ^ 16 + 2 ^ 16 * c.cause.code ∧
    get32 src 12 = c.tested % 2 ^ 32 ∧ get32 src 16 = (BitVec.ofInt 32 c.good).toNat ∧
    get32 src 20 = (BitVec.ofInt 16 (waferYield c)).toNat + 2 ^ 16 * (BitVec.ofInt 16 (e / 256)).toNat ∧
    get32 src 24 = c.touches % 2 ^ 32 ∧ get32 src 28 = c.retests % 2 ^ 32 ∧ get32 src 32 = (c.firstTouch.getD 0).toNat ∧
    get32 src 36 = c.lastTouch.toNat ∧ holdsAt src 40 c.latched.bytes ∧ holdsAt src 56 (binBytes c.bins) ∧
    holdsAt src 312 ((List.finRange 16).flatMap fun i => leBytes 4 c.siteTested[i] ++ leBytes 4 c.sitePass[i]) := by
  simp only [Ctx.summary, holdsAt_append, List.length_append, leBytes_length, leInt_length, MonitorSet.length_bytes,
    length_binBytes, Nat.zero_add, Nat.reduceAdd] at h
  obtain ⟨⟨⟨⟨⟨⟨⟨⟨⟨⟨⟨⟨⟨⟨⟨hlot, htag⟩, hrecipe⟩, hcause⟩, hzero⟩, htested⟩, hgood⟩, hyield⟩, htrend⟩, htouches⟩, hretests⟩, hfirst⟩,
    hlast⟩, hlatched⟩, hbins⟩, hsites⟩ := h
  have hcode := closeCause_code_lt c.cause
  refine ⟨get32_word hlot, get32_word htag, ?_, get32_of htested, get32_int hgood, ?_, get32_of htouches, get32_of hretests,
    get32_word hfirst, get32_word hlast, hlatched, hbins, hsites⟩
  · show get16 src 8 + 65536 * (get8 src 10 + 256 * get8 src 11) = _
    rw [get16_of hrecipe, get8_byte hcause, get8_byte hzero, Nat.mod_eq_of_lt (b := 2 ^ 8) (by omega)]
    rfl
  · show get16 src 20 + 65536 * get16 src 22 = _
    rw [get16_int hyield, get16_int htrend]
    rfl

/-- The statistics of a site in the summary block. -/
theorem summary_site {c : Ctx} {i : SiteId}
    (h : holdsAt src o ((List.finRange 16).flatMap fun i => leBytes 4 c.siteTested[i] ++ leBytes 4 c.sitePass[i])) :
    get32 src (o + 8 * i.val) = c.siteTested[i] % 2 ^ 32 ∧ get32 src (o + 8 * i.val + 4) = c.sitePass[i] % 2 ^ 32 := by
  have hsite := holdsAt_flatMap (n := 8) (fun _ => rfl) h i.val i (by simp)
  rw [holdsAt_append] at hsite
  exact ⟨get32_of hsite.1, get32_of hsite.2⟩

theorem lotSummary_length (t : Lot) : t.summary.length = 288 := by
  simp only [Lot.summary, List.length_append, leBytes_length, leInt_length, length_binBytes]
  rw [length_padTo (by rw [leInt_length]; omega)]

/-- Table 10-7, the lot summary. -/
theorem lotSummary_fields {t : Lot} (h : holdsAt src 0 t.summary) : get32 src 0 = t.id.toNat ∧
    get32 src 4 = t.recipe % 2 ^ 16 + 2 ^ 16 * (t.wafersAll % 2 ^ 8) + 2 ^ 24 * (if t.lowFlag = true then 1 else 0) ∧
    get32 src 8 = t.tested % 2 ^ 32 ∧ get32 src 12 = (BitVec.ofInt 32 t.good).toNat ∧
    get16 src 16 = (BitVec.ofInt 16 (lotYield t)).toNat ∧ holdsAt src 32 (binBytes t.bins) := by
  have hpad : (padTo 16 (leInt 2 (lotYield t))).length = 16 := length_padTo (by rw [leInt_length]; omega)
  simp only [Lot.summary, holdsAt_append, List.length_append, leBytes_length, leInt_length, hpad, Nat.zero_add,
    Nat.reduceAdd] at h
  obtain ⟨⟨⟨⟨⟨⟨⟨hid, hrecipe⟩, hwafers⟩, hlow⟩, htested⟩, hgood⟩, hyield⟩, hbins⟩ := h
  refine ⟨get32_word hid, ?_, get32_of htested, get32_int hgood, get16_int (holdsAt_padTo hyield), hbins⟩
  show get16 src 4 + 65536 * (get8 src 6 + 256 * get8 src 7) = _
  rw [get16_of hrecipe, get8_byte hwafers, get8_byte hlow]
  cases t.lowFlag
  · rw [if_neg nofun]
    show _ + 65536 * (_ + 256 * 0) = _
    omega
  · rw [if_pos rfl]
    show _ + 65536 * (_ + 256 * 1) = _
    omega

end

/-! ### The release of a pin -/

section

variable {s : State} {e : EntryId}

theorem unpinned_fresh {c : CacheEntry} (h : c.stale = false) (addr : Nat) : c.unpinned addr = c :=
  if_neg (by rw [h]; exact nofun)

theorem unpinned_clean {c : CacheEntry} (h : c.stale = true) (hdirty : c.dirty = false) (addr : Nat) :
    c.unpinned addr = c.invalidate :=
  (if_pos h).trans (if_neg (by rw [hdirty]; exact nofun))

theorem unpinned_dirty {c : CacheEntry} (h : c.stale = true) (hdirty : c.dirty = true) (addr : Nat) :
    c.unpinned addr = c.takeTrend addr :=
  (if_pos h).trans (if_pos hdirty)

/-- The entry's pin count has fallen, and what that does to the entry. -/
def State.pinDropped (s : State) (e : EntryId) : State :=
  s.modEntry e fun c => CacheEntry.unpinned (s.trendAddr c.number) { c with pins := c.pins - 1 }

theorem releasePin_last (h : s.cache[e].pins ≤ 1) : s.releasePin e = (s.pinDropped e).wakeRecipe := if_pos h

theorem releasePin_shared (h : 2 ≤ s.cache[e].pins) :
    s.releasePin e = s.modEntry e fun c => { c with pins := c.pins - 1 } := if_neg (by omega)

theorem pinDropped_entry (h : s.cache[e].pins ≤ 1) : (s.pinDropped e).cache[e] =
    CacheEntry.unpinned (s.trendAddr s.cache[e].number) { s.cache[e] with pins := 0 } := by
  unfold State.pinDropped
  rw [State.modEntry_cache, modAt_get_self, Nat.sub_eq_zero_of_le h]

theorem releasePin_frame (s : State) (e : EntryId) :
    s.releasePin e = { s with cache := (s.releasePin e).cache, lanes := (s.releasePin e).lanes } := by
  unfold State.releasePin
  split <;> rfl

theorem releasePin_other {e' : EntryId} (h : e' ≠ e) : (s.releasePin e).cache[e'] = s.cache[e'] := by
  unfold State.releasePin
  split
  · exact modAt_ne s.cache e e' _ h
  · exact modAt_ne s.cache e e' _ h

theorem releasePin_outside (s : State) (e : EntryId) (lots : Vector Lot 8) :
    State.releasePin { s with lots := lots } e = { s.releasePin e with lots := lots } := by
  unfold State.releasePin
  dsimp only
  split <;> rfl

end

/-! ### The writes of an item -/

section

variable {s u : State} {k : CtxId} {q : List CloseItem}

theorem closeTrend_unit (s : State) (k : CtxId) (p : ClosePhase) :
    State.closeTrend { s with closeUnit := p } k = s.closeTrend k := by
  unfold State.closeTrend
  simp only [raiseEvents_eq]
  rfl

theorem closeRows_unit (s : State) (k : CtxId) (p : ClosePhase) : State.closeRows { s with closeUnit := p } k = s.closeRows k := by
  have hrecipe : State.recipeFor { s with closeUnit := p } k = s.recipeFor k := rfl
  unfold State.closeRows
  rw [closeTrend_unit, hrecipe]

/-- An item past its window goes on as an idle Close Unit takes it. -/
theorem serve_again (hq : u.closeQ = .ctx k :: q) (hclean : u.ctxs[k].dirty = false) (hdrain : u.ctxs[k].drainWrite = false) :
    State.serve { u with closeUnit := .idle } = u.closeRows k := by
  have hserve := serve_ctx (s := { u with closeUnit := .idle }) (k := k) (q := q) rfl hq
  have hrows := beginCtxItem_rows (s := { u with closeUnit := .idle }) (k := k) (Or.inl ⟨hclean, hdrain⟩)
  rw [hserve, hrows, closeRows_unit]

theorem goesOn_of (hq : u.closeQ = .ctx k :: q) (hclean : u.ctxs[k].dirty = false) (hdrain : u.ctxs[k].drainWrite = false) :
    announce s (u.closeRows k) = { State.serve { u with closeUnit := .idle } with
      messages := (announce s (u.closeRows k)).messages } := by
  rw [serve_again hq hclean hdrain, ← announce_eq]

theorem announce_mem (s : State) {t u : State} (h : t.base = u.base) : (announce s t).mem = u.mem := congrArg Base.mem h

theorem announce_past (s : State) {t u : State} (h : t.base = u.base) : (announce s t).past = u.past := congrArg Base.past h

/-- A row of a closing context has been stored, and its item goes on. -/
theorem rowWrite_goesOn {i : Instr} {a : Nat} {bs : List Byte} {f : Ctx → Ctx} (hq : s.closeQ = .ctx k :: q)
    (hexec : exec i s = .next (announce s (((s.store a bs).modCtx k f).closeRows k)))
    (hclean : (f s.ctxs[k]).dirty = false) (hdrain : (f s.ctxs[k]).drainWrite = false) :
    ∃ (t u : State), exec i s = .next t ∧ t = { (State.serve { u with closeUnit := .idle }) with messages := t.messages } ∧
      s.stores t a bs ∧ u = { s with mem := t.mem, past := t.past, ctxs := modAt s.ctxs k f } := by
  obtain ⟨u, hu⟩ : ∃ u, u = (s.store a bs).modCtx k f := ⟨_, rfl⟩
  rw [← hu] at hexec
  have hctx : u.ctxs[k] = f s.ctxs[k] := by rw [hu, modCtx_get, State.store_ctxs]
  have hqueue : u.closeQ = .ctx k :: q := by rw [hu]; exact hq
  have hgoes := goesOn_of (s := s) hqueue (by rw [hctx, hclean]) (by rw [hctx, hdrain])
  have hmem := announce_mem s (u.closeRows_base k)
  have hpast := announce_past s (u.closeRows_base k)
  generalize announce s (u.closeRows k) = t at hexec hgoes hmem hpast
  rw [hu] at hmem hpast
  exact ⟨t, u, hexec, hgoes, stores_of hmem hpast, hu.trans (stored_eq hmem hpast fun x => x.modCtx k f)⟩

end

section

variable {s : State} {k : CtxId} {q : List CloseItem}

/-- A synthesized row has been stored. -/
def State.rowStored (s : State) (k : CtxId) (y : RowId) : State :=
  (s.store (s.rowAddr k (s.recipeFor k).cols y) (rowBytes (synthRow (s.recipeFor k) y))).modCtx k fun c =>
    { c with rowsDone := c.rowsDone.set y true }

section

variable (hworking : s.working = true) (hq : s.closeQ = .ctx k :: q)

include hworking hq

theorem exec_closeWindowWritten {y : RowId} (hunit : s.closeUnit = .window) (hdrain : s.ctxs[k].drainWrite = false)
    (hwin : s.ctxs[k].winRow = some y) :
    exec .closeWindowWritten s = .next (announce s ((s.windowStored k y).closeRows k)) := by
  have hwrite : s.closeWrite = some (s.rowAddr k (s.recipeFor k).cols y, rowBytes s.ctxs[k].cells) := by
    rw [State.closeWrite, hunit, hq]
    exact (if_neg (by rw [hdrain]; exact nofun)).trans (windowWrite_eq hwin)
  have hcleaned : (s.storeOpt s.closeWrite).modCtx k Ctx.windowClean = s.windowStored k y := by
    rw [hwrite]
    exact storedClean_eq hwin
  show execCloseWindowWritten s = _
  rw [execCloseWindowWritten, hunit, hq]
  dsimp only
  rw [if_pos ⟨hworking, hdrain⟩, hcleaned]

theorem exec_materializeRowWritten {y : RowId} (hunit : s.closeUnit = .rows y) :
    exec .materializeRowWritten s = .next (announce s ((s.rowStored k y).closeRows k)) := by
  have hwrite : s.closeWrite = some (s.synthWrite k y) := by
    rw [State.closeWrite, hunit, hq]
  show execMaterializeRowWritten s = _
  rw [execMaterializeRowWritten, hunit, hq]
  dsimp only
  rw [if_pos hworking, hwrite]
  rfl

end

theorem modCtx_congr {f g : Ctx → Ctx} (h : f s.ctxs[k] = g s.ctxs[k]) : s.modCtx k f = s.modCtx k g :=
  congrArg (fun ctxs => { s with ctxs := ctxs }) (modAt_congr s.ctxs k f g h)

theorem dropJob_eq {job : SlotJob} {rest : List SlotJob} (h : s.ctxs[k].jobs = job :: rest) :
    s.dropJob k = s.modCtx k fun c => { c with jobs := rest, slotPhase := none } :=
  modCtx_congr (by rw [h]; rfl)

/-- A slot's only job is done and the next falls due: it begins at once. -/
theorem nextJob_eq {job : SlotJob} (hjobs : s.ctxs[k].jobs = [job]) (hheld : s.slotHeld k = false) (j : SlotJob) :
    (s.dropJob k).addJob k j = s.modCtx k fun c => { c with jobs := [j], slotPhase := some (beginJob c j) } := by
  rw [dropJob_eq hjobs]
  have hctx := modCtx_get s k fun c => { c with jobs := [], slotPhase := none }
  rw [addJob_idle (s := s.modCtx k _) (by rw [hctx]) (by rw [hctx]) hheld, modCtx_modCtx]
  cases j <;> rfl

/-- The summary has been stored: POSTED follows at once. -/
theorem summaryDone_eq (hjobs : s.ctxs[k].jobs = [.summary]) (hheld : s.slotHeld k = false) (a : Nat) (bs : List Byte) :
    State.addJob { (s.store a bs).dropJob k with closeUnit := .posting } k .posted = { s.store a bs with
      closeUnit := .posting
      ctxs := modAt s.ctxs k fun c => { c with jobs := [.posted], slotPhase := some .posted } } := by
  let u : State := { s.store a bs with closeUnit := .posting }
  have hjobs' : u.ctxs[k].jobs = [.summary] := hjobs
  have hheld' : u.slotHeld k = false := hheld
  exact nextJob_eq hjobs' hheld' .posted

theorem exec_summaryWritten (hworking : s.working = true) (hq : s.closeQ = .ctx k :: q) (hunit : s.closeUnit = .summary)
    (hphase : s.ctxs[k].slotPhase = some .summary) (hjobs : s.ctxs[k].jobs = [.summary]) (hheld : s.slotHeld k = false) :
    exec .summaryWritten s = .next { s.store (s.slotAddr k + 512) (s.summaryBytes k) with
      closeUnit := .posting
      ctxs := modAt s.ctxs k fun c => { c with jobs := [.posted], slotPhase := some .posted } } := by
  have hwrite : s.slotWrite k = some (s.slotAddr k + 512, s.summaryBytes k) := by rw [State.slotWrite, hphase]
  show execSummaryWritten s = _
  rw [execSummaryWritten, hunit, hq]
  dsimp only
  rw [if_pos ⟨hworking, hphase⟩, hwrite, ← summaryDone_eq hjobs hheld]
  rfl

/-- POSTED has been stored: the context is CLOSED, CLOSE is set on its lane and its lot has one open wafer less. -/
def State.postedDone (s : State) (k : CtxId) : State :=
  { s with
    ctxs := modAt s.ctxs k fun c => { c with state := .closed, jobs := [], slotPhase := none }
    notices := modAt s.notices s.ctxs[k].lane fun n => { n with close := true }
    lots := modAt s.lots s.ctxs[k].lot fun t => { t with wafersOpen := t.wafersOpen - 1 } }

/-- The last write of a context's item. -/
theorem postedDone_eq (hjobs : s.ctxs[k].jobs = [.posted]) :
    ((s.dropJob k).kickSlot k).contextClosed k = (s.postedDone k).releasePin s.ctxs[k].entry := by
  rw [dropJob_eq hjobs]
  let u : State := s.modCtx k fun c => { c with jobs := [], slotPhase := none }
  have hctx : u.ctxs[k] = { s.ctxs[k] with jobs := [], slotPhase := none } := modAt_get_self s.ctxs k _
  have hclosed : u.modCtx k (fun c => { c with state := .closed }) =
      s.modCtx k fun c => { c with state := .closed, jobs := [], slotPhase := none } := modCtx_modCtx s k _ _
  have hdone : u.contextClosed k = State.modLot
      (({ u.modCtx k (fun c => { c with state := .closed }) with
          notices := modAt s.notices s.ctxs[k].lane fun n => { n with close := true } } : State).releasePin s.ctxs[k].entry)
      s.ctxs[k].lot fun t => { t with wafersOpen := t.wafersOpen - 1 } := by
    unfold State.contextClosed
    dsimp only
    rw [hctx]
    rfl
  rw [kickSlot_none u k (by rw [hctx]), hdone, hclosed, State.postedDone]
  have hlots : (({ s.modCtx k fun c => { c with state := .closed, jobs := [], slotPhase := none } with
      notices := modAt s.notices s.ctxs[k].lane fun n => { n with close := true } } : State).releasePin s.ctxs[k].entry).lots =
        s.lots := by rw [releasePin_frame]; rfl
  unfold State.modLot
  rw [hlots]
  exact (releasePin_outside { s.modCtx k fun c => { c with state := .closed, jobs := [], slotPhase := none } with
    notices := modAt s.notices s.ctxs[k].lane fun n => { n with close := true } } s.ctxs[k].entry _).symm

theorem exec_postedWritten (hrun : s.engine.run = .running) (hq : s.closeQ = .ctx k :: q) (hunit : s.closeUnit = .posting)
    (hphase : s.ctxs[k].slotPhase = some .posted) (hjobs : s.ctxs[k].jobs = [.posted]) :
    exec .postedWritten s = .next (announce s (State.serve
      { ((s.store (s.slotAddr k) postedWord).postedDone k).releasePin s.ctxs[k].entry with closeQ := q, closeUnit := .idle })) := by
  have hwrite : s.slotWrite k = some (s.slotAddr k, postedWord) := by rw [State.slotWrite, hphase]
  have hdone := postedDone_eq (s := s.store (s.slotAddr k) postedWord) (k := k) hjobs
  have hrest : ((((s.store (s.slotAddr k) postedWord).postedDone k).releasePin s.ctxs[k].entry).closeQ).tail = q := by
    rw [releasePin_frame]
    show s.closeQ.tail = q
    rw [hq]
    rfl
  have hnext : (((s.store (s.slotAddr k) postedWord).postedDone k).releasePin s.ctxs[k].entry).nextItem = State.serve
      { ((s.store (s.slotAddr k) postedWord).postedDone k).releasePin s.ctxs[k].entry with closeQ := q, closeUnit := .idle } := by
    unfold State.nextItem
    rw [hrest]
  have hengine : (((s.store (s.slotAddr k) postedWord).postedDone k).releasePin s.ctxs[k].entry).nextItem.engine = s.engine :=
    congrArg Base.engine ((State.nextItem_base _).trans (State.releasePin_base _ _))
  show execPostedWritten s = _
  rw [execPostedWritten, hunit, hq]
  dsimp only
  rw [if_pos ⟨working_of (Or.inl hrun), hphase⟩, hwrite]
  show Host.Outcome.next (announce s
    (((((s.store (s.slotAddr k) postedWord).dropJob k).kickSlot k).contextClosed k).nextItem.drainWork)) = _
  rw [hdone]
  show Host.Outcome.next (announce s
    ((((s.store (s.slotAddr k) postedWord).postedDone k).releasePin s.ctxs[k].entry).nextItem.drainWork)) = _
  rw [drainWork_running (by rw [hengine, hrun]), hnext]

end

/-- Settles O47. -/
theorem contextItemAndPin : Obligations.ContextItemAndPin := by
  refine ⟨fun s k q hrun hq => ?_, fun s e => ?_, fun c lot e => ?_⟩
  · intro cols row slot goesOn
    have hworking : s.working = true := working_of (Or.inl hrun)
    refine ⟨fun hunit hdrain => ?_, fun y hunit hdrain hwin => ?_, fun y hunit hclean hdrain => ?_,
      fun hunit hphase hjobs hfree => ?_, fun hunit hphase hjobs => ?_⟩
    · show execCloseWindowWritten s = _
      rw [execCloseWindowWritten, hunit, hq]
      refine if_neg fun h => ?_
      rw [hdrain] at h
      exact absurd h.2 nofun
    · exact rowWrite_goesOn hq (exec_closeWindowWritten hworking hq hunit hdrain hwin) rfl hdrain
    · exact rowWrite_goesOn hq (exec_materializeRowWritten hworking hq hunit) hclean hdrain
    · have hexec := exec_summaryWritten hworking hq hunit hphase hjobs (slotHeld_of_free hfree)
      show ∃ t, _ = _ ∧ _ ∧ s.stores t _ (s.summaryBytes k)
      generalize s.summaryBytes k = bs at hexec ⊢
      exact ⟨_, hexec, rfl, stores_of rfl rfl⟩
    · have hexec := exec_postedWritten hrun hq hunit hphase hjobs
      let u := (s.store (s.slotAddr k) postedWord).postedDone k
      let v : State := State.serve { u.releasePin s.ctxs[k].entry with closeQ := q, closeUnit := .idle }
      have hbase : v.base = u.base := (State.serve_base _).trans (State.releasePin_base _ _)
      have hmem : (announce s v).mem = (s.store slot postedWord).mem := announce_mem s hbase
      have hpast : (announce s v).past = (s.store slot postedWord).past := announce_past s hbase
      exact ⟨_, u, hexec, stores_of hmem hpast, stored_eq hmem hpast fun x => x.postedDone k, announce_eq s v⟩
  · refine ⟨_, rfl, releasePin_frame s e, fun e' he' => releasePin_other he', fun h => ?_, fun h => ?_⟩
    · rw [releasePin_shared h]
      exact ⟨rfl, modAt_get_self s.cache e _⟩
    · let c : CacheEntry := { s.cache[e] with pins := 0 }
      have hentry : (s.releasePin e).cache[e] = c.unpinned (s.trendAddr s.cache[e].number) := by
        rw [releasePin_last h]
        exact pinDropped_entry h
      refine ⟨fun l => ?_, fun hstale => ?_, fun hstale hdirty => ?_, fun hstale hdirty hwriting => ?_,
        fun hstale hdirty hwriting => ?_⟩
      · rw [releasePin_last h]
        exact wakeRecipe_lane (s.pinDropped e) l
      · exact hentry.trans (unpinned_fresh (c := c) hstale _)
      · exact hentry.trans (unpinned_clean (c := c) hstale hdirty _)
      · exact hentry.trans ((unpinned_dirty (c := c) hstale hdirty _).trans (takeTrend_free (c := c) hwriting _))
      · exact hentry.trans ((unpinned_dirty (c := c) hstale hdirty _).trans (takeTrend_busy (c := c) (Option.isSome_iff_ne_none.2 hwriting) _))
  · intro bytes w
    have hbinAt (n : Nat) : 568 + n - 512 = 56 + n := by omega
    have hsiteAt (n : Nat) : 824 + n - 512 = 312 + n := by omega
    have hpassAt (n : Nat) : 828 + n - 512 = 312 + n + 4 := by omega
    obtain ⟨hlot, htag, hrecipe, htested, hgood, hyield, htouches, hretests, hfirst, hlast, hlatched, hbins, hsites⟩ :=
      summary_fields (holdsAt_self (c.summary lot e))
    refine ⟨summary_length c lot e, hlot, htag, hrecipe, htested, hgood, hyield, htouches, hretests, fun h => ?_, fun f h => ?_,
      hlast, fun i hi => ?_, fun b => ?_, fun i => ?_⟩
    · exact hfirst.trans (by rw [h]; rfl)
    · exact hfirst.trans (by rw [h]; rfl)
    · exact hlatched i (by rw [MonitorSet.length_bytes]; exact hi)
    · show get32 _ _ = _
      rw [hbinAt]
      exact get32_bin hbins b
    · obtain ⟨hsite, hpass⟩ := summary_site (i := i) hsites
      refine ⟨?_, ?_⟩
      · show get32 _ _ = _
        rw [hsiteAt]
        exact hsite
      · show get32 _ _ = _
        rw [hpassAt]
        exact hpass

/-! ### LOT_END and a lot entry's item -/

section

variable {s : State} {m : Merge} {bs : List Byte}

theorem execLotEnd_unknown (hread : s.recordRead (fun n => decide (n = kindLotEnd)) = some m)
    (hlot : s.activeLot (endLot m.bytes) = none) : exec .lotEnd s = .next (s.dispose m dNoLot) := by
  show execLotEnd s = _
  rw [execLotEnd, hread]
  dsimp only
  rw [hlot]

theorem execLotEnd_known {i : LotId} (hread : s.recordRead (fun n => decide (n = kindLotEnd)) = some m)
    (hlot : s.activeLot (endLot m.bytes) = some i) : exec .lotEnd s =
      if 0 < s.lots[i].wafersOpen then .next (s.dispose m dLotBusy)
      else .next (announce s (((s.modLot i fun t => { t with state := .ending, endingLane := m.lane }).enqueue (.lot i)).dispose
        m dAccepted)) := by
  show execLotEnd s = _
  rw [execLotEnd, hread]
  dsimp only
  rw [hlot]

theorem lotNamed_iff {id : Word} (i : LotId) : (decide (s.lots[i].state = .active) && decide (s.lots[i].id = id)) = true ↔
    s.lots[i].state = .active ∧ s.lots[i].id = id := by
  rw [Bool.and_eq_true, decide_eq_true_eq, decide_eq_true_eq]

theorem activeLot_none {id : Word} (h : ∀ i : LotId, ¬ (s.lots[i].state = .active ∧ s.lots[i].id = id)) :
    s.activeLot id = none :=
  find_none_of 8 _ fun i => Bool.eq_false_iff.2 (mt (lotNamed_iff i).1 (h i))

theorem activeLot_some {id : Word} {i : LotId} (h : s.lots[i].state = .active ∧ s.lots[i].id = id)
    (hfirst : ∀ i' < i, ¬ (s.lots[i'].state = .active ∧ s.lots[i'].id = id)) : s.activeLot id = some i :=
  find_first 8 _ i ((lotNamed_iff i).2 h) fun i' hi' => Bool.eq_false_iff.2 (mt (lotNamed_iff i').1 (hfirst i' hi'))

end

section

variable {s : State} {i : LotId} {q : List CloseItem}

/-- POSTED of a lot entry has been stored: CLOSE is set on the lane that ended the lot. -/
def State.lotDone (s : State) (i : LotId) : State :=
  { s with
    lots := modAt s.lots i fun t => { t with state := .posted }
    notices := modAt s.notices s.lots[i].endingLane fun n => { n with close := true } }

theorem exec_lotSummaryWritten (hworking : s.working = true) (hq : s.closeQ = .lot i :: q) (hunit : s.closeUnit = .lotSummary) :
    exec .lotSummaryWritten s = .next { s.store (s.lotAddr i + 64) s.lots[i].summary with closeUnit := .lotPosting } := by
  have hwrite : s.closeWrite = some (s.lotAddr i + 64, s.lots[i].summary) := by rw [State.closeWrite, hunit, hq]
  show execLotSummaryWritten s = _
  rw [execLotSummaryWritten, hunit, hq]
  dsimp only
  rw [if_pos hworking, hwrite]
  rfl

theorem exec_lotPostedWritten (hrun : s.engine.run = .running) (hq : s.closeQ = .lot i :: q) (hunit : s.closeUnit = .lotPosting) :
    exec .lotPostedWritten s = .next (announce s (State.serve
      { (s.store (s.lotAddr i) postedWord).lotDone i with closeQ := q, closeUnit := .idle })) := by
  have hwrite : s.closeWrite = some (s.lotAddr i, postedWord) := by rw [State.closeWrite, hunit, hq]
  have hnext : ((s.store (s.lotAddr i) postedWord).lotDone i).nextItem =
      State.serve { (s.store (s.lotAddr i) postedWord).lotDone i with closeQ := q, closeUnit := .idle } := by
    have hrest : ((s.store (s.lotAddr i) postedWord).lotDone i).closeQ = .lot i :: q := hq
    unfold State.nextItem
    rw [hrest]
    rfl
  have hengine : ((s.store (s.lotAddr i) postedWord).lotDone i).nextItem.engine = s.engine :=
    congrArg Base.engine (State.nextItem_base _)
  show execLotPostedWritten s = _
  rw [execLotPostedWritten, hunit, hq]
  dsimp only
  rw [if_pos (working_of (Or.inl hrun)), hwrite]
  show Host.Outcome.next (announce s (((s.store (s.lotAddr i) postedWord).lotDone i).nextItem.drainWork)) = _
  rw [drainWork_running (by rw [hengine, hrun]), hnext]

end

/-- Settles O29. -/
theorem lotEndAndItem : Obligations.LotEndAndItem := by
  refine ⟨fun s m bs hreads hkind => ?_, fun s i q hrun hq => ?_, fun t => ?_⟩
  · intro named
    have hread : s.recordRead (fun n => decide (n = kindLotEnd)) = some { m with bytes := bs } :=
      recordRead_of hreads _ (decide_eq_true hkind)
    refine ⟨fun hnone => ⟨_, execLotEnd_unknown hread (activeLot_none hnone), rfl⟩, fun i hi hfirst => ?_⟩
    have hexec := execLotEnd_known hread (activeLot_some hi hfirst)
    refine ⟨fun hopen => ⟨_, hexec.trans (if_pos hopen), rfl⟩, fun hclosed => ?_⟩
    exact ⟨_, hexec.trans (if_neg (by rw [hclosed]; exact Nat.lt_irrefl 0)), announce_eq s _⟩
  · intro slot
    have hworking : s.working = true := working_of (Or.inl hrun)
    refine ⟨fun hunit => ?_, fun hunit => ?_⟩
    · have hexec := exec_lotSummaryWritten hworking hq hunit
      generalize s.lots[i].summary = bs at hexec ⊢
      exact ⟨_, hexec, rfl, stores_of rfl rfl⟩
    · have hexec := exec_lotPostedWritten hrun hq hunit
      let u := (s.store (s.lotAddr i) postedWord).lotDone i
      let v : State := State.serve { u with closeQ := q, closeUnit := .idle }
      have hbase : v.base = u.base := State.serve_base _
      have hmem : (announce s v).mem = (s.store slot postedWord).mem := announce_mem s hbase
      have hpast : (announce s v).past = (s.store slot postedWord).past := announce_past s hbase
      have hstate := stored_eq hmem hpast fun x => { State.serve { x.lotDone i with closeQ := q, closeUnit := .idle } with
        messages := (announce s v).messages }
      exact ⟨_, hexec, stores_of hmem hpast, hstate⟩
  · intro bytes w
    have hbinAt (n : Nat) : 96 + n - 64 = 32 + n := by omega
    have hmod (a b : Nat) (h : a < 2 ^ 16) : (a + 65536 * b) % 2 ^ 16 = a := by omega
    obtain ⟨hid, hrecipe, htested, hgood, hyield, hbins⟩ := lotSummary_fields (holdsAt_self t.summary)
    refine ⟨lotSummary_length t, hid, hrecipe, htested, hgood, ?_, fun b => ?_⟩
    · show (get16 (listSrc t.summary) 16 + 65536 * get16 (listSrc t.summary) 18) % 2 ^ 16 = _
      rw [hyield, hmod _ _ (BitVec.isLt _)]
    · show get32 _ _ = _
      rw [hbinAt]
      exact get32_bin hbins b

end Sys2Proof.Machine
end

section
/-!
PROOFS. Drain windows, messages and host writes; the trend test and the update of E; the evaluation of a context. They settle
O48, O51 and O52.
-/

namespace Sys2Proof.Machine

/-! ### Drain windows, messages, host writes -/

theorem exec_drainWindowWritten {s : State} {k : CtxId} {y : RowId} (hworking : s.working = true)
    (hdrain : s.ctxs[k].drainWrite = true) (hwin : s.ctxs[k].winRow = some y) : exec (.drainWindowWritten k) s =
      .next ((s.store (s.rowAddr k (s.recipeFor k).cols y) (rowBytes s.ctxs[k].cells)).modCtx k fun c =>
        { c with rowsDone := c.rowsDone.set y true, dirty := false, drainWrite := false }) := by
  have hclean : (s.store (s.rowAddr k (s.recipeFor k).cols y) (rowBytes s.ctxs[k].cells)).modCtx k
      (fun c => { c.windowClean with drainWrite := false }) =
        (s.store (s.rowAddr k (s.recipeFor k).cols y) (rowBytes s.ctxs[k].cells)).modCtx k fun c =>
          { c with rowsDone := c.rowsDone.set y true, dirty := false, drainWrite := false } := by
    refine modCtx_congr ?_
    rw [State.store_ctxs]
    exact congrArg (fun c : Ctx => { c with drainWrite := false }) (windowClean_eq hwin)
  show execDrainWindowWritten k s = _
  rw [execDrainWindowWritten, if_pos ⟨hworking, hdrain⟩, windowWrite_eq hwin, ← hclean]
  rfl

/-- Settles O48. -/
theorem windowMessageAndHostWrites : Obligations.WindowMessageAndHostWrites := by
  intro s
  refine ⟨fun k y hworking hdrain hwin => ?_, rfl, fun addr data h => ?_, fun addr data h => ?_⟩
  · have hexec := exec_drainWindowWritten (working_of hworking) hdrain hwin
    generalize rowBytes s.ctxs[k].cells = bs at hexec ⊢
    exact ⟨_, hexec, rfl, stores_of rfl rfl⟩
  · have hexec : exec (.memoryWindowWrite addr data) s = .next (s.store addr.toNat data) := if_pos h
    exact ⟨_, hexec, rfl, s.stores_store _ _⟩
  · exact if_neg (Nat.not_le.2 h)

/-! ### Trends -/

section

variable {c : Ctx}

theorem waferYield_range (hgood : 0 ≤ c.good) (hle : c.good ≤ c.tested) : 0 ≤ waferYield c ∧ waferYield c ≤ 10000 := by
  unfold waferYield
  split
  · exact ⟨le_refl 0, by omega⟩
  · next htested =>
    refine ⟨Int.ediv_nonneg (by omega) (by omega), Int.ediv_le_of_le_mul (by omega) (by omega)⟩

variable {e y : Int}

/-- E moves up towards a yield above it. -/
theorem trendStep_up (h : e ≤ y) (n : Nat) : e + Int.tdiv (y - e) (2 ^ n) = e + (y - e) / 2 ^ n := by
  rw [Int.tdiv_eq_ediv_of_nonneg (by omega)]

/-- E moves down towards a yield below it, the quotient cut off towards 0. -/
theorem trendStep_down (h : y ≤ e) (n : Nat) : e + Int.tdiv (y - e) (2 ^ n) = e - (e - y) / 2 ^ n := by
  have hneg : y - e = -(e - y) := by ring
  rw [hneg, Int.neg_tdiv, Int.tdiv_eq_ediv_of_nonneg (by omega)]
  ring

/-- The step never passes the yield. -/
theorem trendStep_between (n : Nat) : min e y ≤ e + Int.tdiv (y - e) (2 ^ n) ∧ e + Int.tdiv (y - e) (2 ^ n) ≤ max e y := by
  have hpow : (0 : Int) ≤ 2 ^ n := by positivity
  rcases le_total e y with h | h
  · have hlow : 0 ≤ (y - e) / 2 ^ n := Int.ediv_nonneg (by omega) hpow
    have hhigh : (y - e) / 2 ^ n ≤ y - e := Int.ediv_le_self _ (by omega)
    rw [trendStep_up h, min_eq_left h, max_eq_right h]
    omega
  · have hlow : 0 ≤ (e - y) / 2 ^ n := Int.ediv_nonneg (by omega) hpow
    have hhigh : (e - y) / 2 ^ n ≤ e - y := Int.ediv_le_self _ (by omega)
    rw [trendStep_down h, min_eq_right h, max_eq_left h]
    omega

variable {r : Recipe} {count : Nat}

theorem trendLow_iff : trendLow r c e count = true ↔ r.warmup ≤ count ∧ waferYield c * 256 + r.margin * 256 < e := by
  unfold trendLow
  rw [Bool.and_eq_true, decide_eq_true_eq, decide_eq_true_eq]

theorem trendNext_guarded (hguard : r.guarded = true) (hlow : trendLow r c e count = true) : trendNext r c e count = e :=
  if_pos (by rw [hguard, hlow]; rfl)

theorem trendNext_open (h : r.guarded = false ∨ trendLow r c e count = false) : trendNext r c e count =
    if count = 0 then waferYield c * 256 else e + Int.tdiv (waferYield c * 256 - e) (2 ^ r.weight) :=
  if_neg (by rw [Bool.and_eq_true]; rcases h with h | h <;> simp [h])

theorem trendNext_between : min e (waferYield c * 256) ≤ trendNext r c e count ∧
    trendNext r c e count ≤ max e (waferYield c * 256) := by
  unfold trendNext
  split
  · exact ⟨min_le_left _ _, le_max_left _ _⟩
  · split
    · exact ⟨min_le_right _ _, le_max_right _ _⟩
    · exact trendStep_between r.weight

end

/-- Settles O51. -/
theorem trendUpdate : Obligations.TrendUpdate := by
  intro r c e count hgood hle hpos hmax y new
  obtain ⟨hlow, hhigh⟩ := waferYield_range hgood hle
  obtain ⟨hmin, hmax'⟩ := trendNext_between (r := r) (c := c) (e := e) (count := count)
  have hnewLow : 0 ≤ new := le_trans (le_min hpos (by omega)) hmin
  have hnewHigh : new ≤ 2560000 := le_trans hmax' (max_le hmax (by omega))
  refine ⟨hlow, hhigh, trendLow_iff, trendNext_guarded, fun hopen hzero => ?_, fun hopen hcount => ⟨fun h => ?_, fun h => ?_⟩,
    hmin, hmax', hnewLow, hnewHigh, Int.ediv_nonneg hnewLow (by omega), Int.ediv_le_of_le_mul (by omega) (by omega)⟩
  · exact (trendNext_open hopen).trans (if_pos hzero)
  · exact (trendNext_open hopen).trans ((if_neg hcount).trans (trendStep_up h _))
  · exact (trendNext_open hopen).trans ((if_neg hcount).trans (trendStep_down h _))

/-! ### Evaluations -/

theorem nextActive_released {b : Bool} (h : b = false) (asserts releases : Bool) : nextActive b asserts releases = asserts := by
  rw [h]
  rfl

theorem nextActive_asserted {b : Bool} (h : b = true) (asserts releases : Bool) : nextActive b asserts releases = !releases := by
  rw [h]
  rfl

theorem mem_eventOf {k k' : MonitorKind} {a before after : Bool} :
    (⟨k, a⟩ : Event) ∈ eventOf k' before after ↔ k = k' ∧ before = !a ∧ after = a := by
  unfold eventOf
  cases before <;> cases after <;> cases a <;> simp

/-- The events of an evaluation, by kind. -/
theorem mem_evaluationEvents {k : MonitorKind} {a : Bool} {before after : MonitorSet} :
    (⟨k, a⟩ : Event) ∈ evaluationEvents before after ↔
      k = .yieldFloor ∧ before.floor = !a ∧ after.floor = a ∨ k = .siteGap ∧ before.gap = !a ∧ after.gap = a ∨
      k = .idle ∧ before.idle = !a ∧ after.idle = a ∨ k = .binLimit ∧ (∃ b : BinCode, before.bins[b] = !a ∧ after.bins[b] = a) ∨
      k = .siteRun ∧ ∃ i : SiteId, before.sites[i] = !a ∧ after.sites[i] = a := by
  simp only [evaluationEvents, List.mem_append, List.mem_flatMap, List.mem_finRange, true_and, mem_eventOf, or_assoc,
    exists_and_left]

theorem nextActiveSet_bin (r : Recipe) (c : Ctx) (b : BinCode) :
    (nextActiveSet r c).bins[b] = nextActive c.active.bins[b] (binAsserts r c b) (binReleases r c b) :=
  mapAll_get c.active.bins (fun b on => nextActive on (binAsserts r c b) (binReleases r c b)) b.val b.isLt

theorem nextActiveSet_site (r : Recipe) (c : Ctx) (i : SiteId) :
    (nextActiveSet r c).sites[i] = nextActive c.active.sites[i] (runAsserts r c i) (runReleases r c i) :=
  mapAll_get c.active.sites (fun i on => nextActive on (runAsserts r c i) (runReleases r c i)) i.val i.isLt

theorem latch_bin (l a : MonitorSet) (b : BinCode) : (latch l a).bins[b] = (l.bins[b] || a.bins[b]) :=
  mapAll_get l.bins (fun b on => on || a.bins[b]) b.val b.isLt

theorem latch_site (l a : MonitorSet) (i : SiteId) : (latch l a).sites[i] = (l.sites[i] || a.sites[i]) :=
  mapAll_get l.sites (fun i on => on || a.sites[i]) i.val i.isLt

theorem or_iff {b b₁ b₂ : Bool} (h : b = (b₁ || b₂)) : b = true ↔ b₁ = true ∨ b₂ = true := by rw [h, Bool.or_eq_true]

/-- Settles O52. -/
theorem evaluationDecides : Obligations.EvaluationDecides := by
  intro r c set evs t
  have hidle : set.idle = false := rfl
  refine ⟨rfl, fun h => nextActive_released h _ _, fun h => nextActive_asserted h _ _, fun h => nextActive_released h _ _,
    fun h => nextActive_asserted h _ _, rfl, fun b => ⟨fun h => ?_, fun h => ?_⟩, fun i => ⟨fun h => ?_, fun h => ?_⟩,
    or_iff rfl, or_iff rfl, Bool.or_false _, fun b => or_iff (latch_bin _ _ b), fun i => or_iff (latch_site _ _ i),
    fun a => ?_, fun k => ?_⟩
  · exact (nextActiveSet_bin r c b).trans (nextActive_released h _ _)
  · exact (nextActiveSet_bin r c b).trans (nextActive_asserted h _ _)
  · exact (nextActiveSet_site r c i).trans (nextActive_released h _ _)
  · exact (nextActiveSet_site r c i).trans (nextActive_asserted h _ _)
  · have hmem (k : MonitorKind) := mem_evaluationEvents (k := k) (a := a) (before := c.active) (after := set)
    refine ⟨(hmem .yieldFloor).trans (by simp), (hmem .siteGap).trans (by simp), (hmem .idle).trans ?_,
      (hmem .binLimit).trans (by simp), (hmem .siteRun).trans (by simp), mt (hmem .trendLow).1 (by simp),
      mt (hmem .lotFloor).1 (by simp)⟩
    rw [hidle]
    cases a <;> simp
  · refine ⟨Iff.rfl, Iff.rfl, ?_, rfl⟩
    show (true && r.assertMask.has k && r.holdMask.has k) = true ↔ _
    rw [Bool.true_and, Bool.and_eq_true]

end Sys2Proof.Machine
end

section
/-!
PROOFS. Recipe table entries: the refusal causes in their order, the fields of a validated copy, and its image read back. They
settle O44.
-/

namespace Sys2Proof.Machine

/-! ### The structural tests of Table 5-2 -/

section

variable (src : Nat → Byte)

def namesValid : Prop := (src 0).getLsbD 0 = true

def geometryFits : Prop := 1 ≤ get16 src 4 ∧ get16 src 4 ≤ 512 ∧ 1 ≤ get16 src 6 ∧ get16 src 6 ≤ 512

def extentsFit : Prop := ∀ y < get16 src 6, get16 src (1024 + 4 * y) = 0xFFFF ∨
  get16 src (1024 + 4 * y) ≤ get16 src (1026 + 4 * y) ∧ get16 src (1026 + 4 * y) < get16 src 4

def foldsOrdered : Prop := ∀ i < get8 src 3, get16 src (352 + 8 * i) ≤ get16 src (354 + 8 * i)

def codesFit : Prop := (∀ i < get8 src 3, get8 src (356 + 8 * i) ≤ 63) ∧ get8 src 8 ≤ 63

def sitesFit : Prop := 1 ≤ get8 src 2 ∧ get8 src 2 ≤ 16

def policyNamed : Prop := get8 src 1 ≤ 2

theorem notValid_iff : bit8 src 0 0 = false ↔ ¬ namesValid src := Bool.not_eq_true _ ▸ Iff.rfl

theorem badGeometry_iff : (get16 src 4 = 0 ∨ 512 < get16 src 4 ∨ get16 src 6 = 0 ∨ 512 < get16 src 6) ↔ ¬ geometryFits src := by
  unfold geometryFits
  omega

theorem extentBad_iff (cols y : Nat) : extentBad cols (extentAt src y) = true ↔ ¬ (get16 src (1024 + 4 * y) = 0xFFFF ∨
    get16 src (1024 + 4 * y) ≤ get16 src (1026 + 4 * y) ∧ get16 src (1026 + 4 * y) < cols) := by
  unfold extentAt
  split
  · next hempty => exact iff_of_false nofun (not_not.2 (Or.inl hempty))
  · next hfull =>
    rw [extentBad, Bool.or_eq_true, decide_eq_true_eq, decide_eq_true_eq]
    omega

theorem any_range_iff {n : Nat} {p : Nat → Bool} {q : Nat → Prop} (h : ∀ i, p i = true ↔ ¬ q i) :
    (List.range n).any p = true ↔ ¬ ∀ i < n, q i := by
  simp only [List.any_eq_true, List.mem_range, h, not_forall, exists_prop]

theorem badExtent_iff : ((List.range (get16 src 6)).any fun y => extentBad (get16 src 4) (extentAt src y)) = true ↔
    ¬ extentsFit src := any_range_iff fun y => extentBad_iff src _ y

theorem badFold_iff : ((List.range (get8 src 3)).any fun i =>
    decide (get16 src (354 + 8 * i) < get16 src (352 + 8 * i))) = true ↔ ¬ foldsOrdered src :=
  any_range_iff fun i => by rw [decide_eq_true_eq, Nat.not_le]

theorem badCode_iff : (((List.range (get8 src 3)).any fun i => decide (63 < get8 src (356 + 8 * i))) ||
    decide (63 < get8 src 8)) = true ↔ ¬ codesFit src := by
  rw [Bool.or_eq_true, any_range_iff (q := fun i => get8 src (356 + 8 * i) ≤ 63) fun i => by rw [decide_eq_true_eq, Nat.not_le],
    decide_eq_true_eq, ← Nat.not_le, ← not_and_or]
  rfl

theorem badSites_iff : (get8 src 2 = 0 ∨ 16 < get8 src 2) ↔ ¬ sitesFit src := by
  unfold sitesFit
  omega

theorem badPolicy_iff : 2 < get8 src 1 ↔ ¬ policyNamed src := Nat.not_le.symm

theorem foldCount_iff : 32 < get8 src 3 ↔ ¬ get8 src 3 ≤ 32 := Nat.not_le.symm

open Classical in
/-- R88: the first test of Table 5-2 that fails names the cause. -/
theorem refusalOf_eq : refusalOf src =
    if ¬ namesValid src then some .notValid
    else if ¬ geometryFits src then some .badGeometry
    else if ¬ extentsFit src then some .badExtent
    else if ¬ get8 src 3 ≤ 32 then some .badFold
    else if ¬ foldsOrdered src then some .badFold
    else if ¬ codesFit src then some .badCode
    else if ¬ sitesFit src then some .badSites
    else if ¬ policyNamed src then some .badPolicy
    else none := by
  unfold refusalOf
  simp only [notValid_iff, badGeometry_iff, badExtent_iff, badFold_iff, badCode_iff, badSites_iff, badPolicy_iff, foldCount_iff]

end

section

variable {src : Nat → Byte} (hvalid : namesValid src)

theorem refused_notValid (h : ¬ namesValid src) : refusalOf src = some .notValid := by
  rw [refusalOf_eq, if_pos h]

include hvalid

theorem refused_badGeometry (h : ¬ geometryFits src) : refusalOf src = some .badGeometry := by
  rw [refusalOf_eq, if_neg (not_not.2 hvalid), if_pos h]

variable (hgeometry : geometryFits src)

include hgeometry

theorem refused_badExtent (h : ¬ extentsFit src) : refusalOf src = some .badExtent := by
  rw [refusalOf_eq, if_neg (not_not.2 hvalid), if_neg (not_not.2 hgeometry), if_pos h]

variable (hextents : extentsFit src)

include hextents

theorem refused_badFold (h : ¬ (get8 src 3 ≤ 32 ∧ foldsOrdered src)) : refusalOf src = some .badFold := by
  rw [refusalOf_eq, if_neg (not_not.2 hvalid), if_neg (not_not.2 hgeometry), if_neg (not_not.2 hextents)]
  rcases not_and_or.1 h with hcount | horder
  · rw [if_pos hcount]
  · rw [if_pos horder, ite_self]

variable (hfolds : get8 src 3 ≤ 32 ∧ foldsOrdered src)

include hfolds

/-- What is left of the tests once the folds have passed. -/
theorem refusal_past_folds : refusalOf src =
    open Classical in
    if ¬ codesFit src then some .badCode
    else if ¬ sitesFit src then some .badSites
    else if ¬ policyNamed src then some .badPolicy
    else none := by
  rw [refusalOf_eq, if_neg (not_not.2 hvalid), if_neg (not_not.2 hgeometry), if_neg (not_not.2 hextents),
    if_neg (not_not.2 hfolds.1), if_neg (not_not.2 hfolds.2)]

theorem refused_badCode (h : ¬ codesFit src) : refusalOf src = some .badCode := by
  rw [refusal_past_folds hvalid hgeometry hextents hfolds, if_pos h]

variable (hcodes : codesFit src)

include hcodes

theorem refused_badSites (h : ¬ sitesFit src) : refusalOf src = some .badSites := by
  rw [refusal_past_folds hvalid hgeometry hextents hfolds, if_neg (not_not.2 hcodes), if_pos h]

variable (hsites : sitesFit src)

include hsites

theorem refused_badPolicy (h : ¬ policyNamed src) : refusalOf src = some .badPolicy := by
  rw [refusal_past_folds hvalid hgeometry hextents hfolds, if_neg (not_not.2 hcodes), if_neg (not_not.2 hsites), if_pos h]

theorem not_refused (h : policyNamed src) : refusalOf src = none := by
  rw [refusal_past_folds hvalid hgeometry hextents hfolds, if_neg (not_not.2 hcodes), if_neg (not_not.2 hsites),
    if_neg (not_not.2 h)]

end

/-- An entry that is not refused has passed every test. -/
theorem passed_of_accepted {src : Nat → Byte} (h : refusalOf src = none) : geometryFits src ∧ extentsFit src ∧
    (get8 src 3 ≤ 32 ∧ foldsOrdered src) ∧ codesFit src ∧ sitesFit src ∧ policyNamed src := by
  have test {p : Prop} {cause : Refused} (hp : ¬ p → refusalOf src = some cause) : p :=
    by_contra fun hnot => absurd (h.symm.trans (hp hnot)) nofun
  have hvalid : namesValid src := test refused_notValid
  have hgeometry : geometryFits src := test (refused_badGeometry hvalid)
  have hextents : extentsFit src := test (refused_badExtent hvalid hgeometry)
  have hfolds : get8 src 3 ≤ 32 ∧ foldsOrdered src := test (refused_badFold hvalid hgeometry hextents)
  have hcodes : codesFit src := test (refused_badCode hvalid hgeometry hextents hfolds)
  have hsites : sitesFit src := test (refused_badSites hvalid hgeometry hextents hfolds hcodes)
  exact ⟨hgeometry, hextents, hfolds, hcodes, hsites, test (refused_badPolicy hvalid hgeometry hextents hfolds hcodes hsites)⟩

/-! ### The image of a validated copy -/

/-- The fields of a copy are in the ranges that its layout holds. -/
structure Recipe.Fits (r : Recipe) : Prop where
  valid : r.valid = true
  cols : r.cols < 2 ^ 16
  rows : r.rows ≤ 512
  extents : r.extents.length = r.rows
  extent : ∀ first last, some (first, last) ∈ r.extents → first < 0xFFFF ∧ last < 2 ^ 16
  folds : r.folds.length ≤ 32
  fold : ∀ f ∈ r.folds, f.lo < 2 ^ 16 ∧ f.hi < 2 ^ 16
  bin : ∀ b : BinCode, (r.bins[b]).rank < 64 ∧ (r.bins[b]).limit ≤ 10000
  sites : r.siteCount ≤ 16
  offsets : r.offsets.length = r.siteCount
  offset : ∀ d ∈ r.offsets, (BitVec.ofInt 7 d.1).toInt = d.1 ∧ (BitVec.ofInt 7 d.2).toInt = d.2
  minSample : 1 ≤ r.minSample ∧ r.minSample < 2 ^ 16
  thresholds : r.floor ≤ 10000 ∧ r.floorHyst ≤ 10000 ∧ r.binHyst ≤ 10000 ∧ r.gapLimit ≤ 10000 ∧ r.gapHyst ≤ 10000 ∧
    r.margin ≤ 10000 ∧ r.lotFloor ≤ 10000
  runLimit : r.runLimit < 2 ^ 8
  idleLimit : r.idleLimit < 2 ^ 16
  weight : 1 ≤ r.weight ∧ r.weight ≤ 8
  warmup : 1 ≤ r.warmup ∧ r.warmup < 2 ^ 8
  trendE : 0 ≤ r.trendE ∧ r.trendE ≤ 2560000
  trendCount : r.trendCount < 2 ^ 16

/-- The first 42 bytes of the image. -/
def Recipe.header (r : Recipe) : List Byte :=
  [BitVec.ofNat 8 r.valid.toNat, BitVec.ofNat 8 r.policy.code, BitVec.ofNat 8 r.siteCount,
      BitVec.ofNat 8 r.folds.length] ++ leBytes 2 r.cols ++ leBytes 2 r.rows ++
      [BitVec.ofNat 8 r.stray.val, BitVec.ofNat 8 (packBits [r.autoclose, r.guarded]), BitVec.ofNat 8 r.weight,
        BitVec.ofNat 8 r.warmup] ++ leBytes 2 r.minSample ++ leBytes 2 r.floor ++ leBytes 2 r.floorHyst ++
      leBytes 2 r.binHyst ++ [BitVec.ofNat 8 r.runLimit, 0] ++ leBytes 2 r.gapLimit ++ leBytes 2 r.gapHyst ++
      leBytes 2 r.idleLimit ++ leBytes 2 r.margin ++ leBytes 2 r.lotFloor ++
      [maskByte r.assertMask, maskByte r.releaseMask, maskByte r.holdMask, 0] ++ leInt 4 r.trendE ++
      leBytes 2 r.trendCount

theorem image_eq (r : Recipe) : r.image = padTo 64 r.header ++ padTo 32 (r.offsets.flatMap offsetBytes) ++
    r.bins.toList.flatMap BinAttr.bytes ++ padTo 672 (r.folds.flatMap FoldRange.bytes) ++
    padTo 3072 (r.extents.flatMap extentBytes) := rfl

section

variable {src : Nat → Byte} {o : Nat} {r : Recipe}

theorem header_length (r : Recipe) : r.header.length = 42 := by
  simp only [Recipe.header, List.length_append, leBytes_length, leInt_length, List.length_cons, List.length_nil]

theorem offsetBytes_length (d : Int × Int) : (offsetBytes d).length = 2 := rfl

theorem binAttr_length (a : BinAttr) : a.bytes.length = 4 := rfl

theorem foldRange_length (f : FoldRange) : f.bytes.length = 8 := rfl

theorem extentBytes_length (x : Option (Nat × Nat)) : (extentBytes x).length = 4 := by
  cases x <;> rfl

/-- Table 10-6 up to byte 41. -/
theorem header_fields (h : holdsAt src 0 r.header) :
    (src 1 = BitVec.ofNat 8 r.policy.code ∧ src 2 = BitVec.ofNat 8 r.siteCount ∧ src 3 = BitVec.ofNat 8 r.folds.length ∧
      get16 src 4 = r.cols % 2 ^ 16 ∧ get16 src 6 = r.rows % 2 ^ 16) ∧
    (src 8 = BitVec.ofNat 8 r.stray.val ∧ src 9 = BitVec.ofNat 8 (packBits [r.autoclose, r.guarded]) ∧
      src 10 = BitVec.ofNat 8 r.weight ∧ src 11 = BitVec.ofNat 8 r.warmup) ∧
    (get16 src 12 = r.minSample % 2 ^ 16 ∧ get16 src 14 = r.floor % 2 ^ 16 ∧ get16 src 16 = r.floorHyst % 2 ^ 16 ∧
      get16 src 18 = r.binHyst % 2 ^ 16 ∧ src 20 = BitVec.ofNat 8 r.runLimit) ∧
    (get16 src 22 = r.gapLimit % 2 ^ 16 ∧ get16 src 24 = r.gapHyst % 2 ^ 16 ∧ get16 src 26 = r.idleLimit % 2 ^ 16 ∧
      get16 src 28 = r.margin % 2 ^ 16 ∧ get16 src 30 = r.lotFloor % 2 ^ 16) ∧
    src 32 = maskByte r.assertMask ∧ src 33 = maskByte r.releaseMask ∧ src 34 = maskByte r.holdMask ∧
    get32 src 36 = (BitVec.ofInt 32 r.trendE).toNat ∧ get16 src 40 = r.trendCount % 2 ^ 16 := by
  simp only [Recipe.header, holdsAt_append, holdsAt_cons, List.length_append, leBytes_length, leInt_length, List.length_cons,
    List.length_nil, Nat.zero_add, Nat.reduceAdd] at h
  obtain ⟨⟨⟨⟨⟨⟨⟨⟨⟨⟨⟨⟨⟨⟨⟨⟨⟨-, hpolicy, hsites, hfolds, -⟩, hcols⟩, hrows⟩, hstray, hflags, hweight, hwarmup, -⟩, hmin⟩, hfloor⟩,
    hfloorHyst⟩, hbinHyst⟩, hrun, -⟩, hgap⟩, hgapHyst⟩, hidle⟩, hmargin⟩, hlot⟩, hassert, hrelease, hhold, -⟩, htrend⟩, hcount⟩ := h
  exact ⟨⟨hpolicy, hsites, hfolds, get16_of hcols, get16_of hrows⟩, ⟨hstray, hflags, hweight, hwarmup⟩,
    ⟨get16_of hmin, get16_of hfloor, get16_of hfloorHyst, get16_of hbinHyst, hrun⟩,
    ⟨get16_of hgap, get16_of hgapHyst, get16_of hidle, get16_of hmargin, get16_of hlot⟩, hassert, hrelease, hhold,
    get32_int htrend, get16_of hcount⟩

section

variable (hr : r.Fits)

include hr

theorem image_parts_length : (padTo 64 r.header).length = 64 ∧ (padTo 32 (r.offsets.flatMap offsetBytes)).length = 32 ∧
    (r.bins.toList.flatMap BinAttr.bytes).length = 256 ∧ (padTo 672 (r.folds.flatMap FoldRange.bytes)).length = 672 ∧
    (padTo 3072 (r.extents.flatMap extentBytes)).length = 3072 := by
  have hsites := hr.sites
  have hfolds := hr.folds
  have hrows := hr.rows
  refine ⟨length_padTo ?_, length_padTo ?_, ?_, length_padTo ?_, length_padTo ?_⟩
  · rw [header_length]
    omega
  · rw [length_flatMap offsetBytes_length, hr.offsets]
    omega
  · rw [length_flatMap binAttr_length, Vector.length_toList]
  · rw [length_flatMap foldRange_length]
    omega
  · rw [length_flatMap extentBytes_length, hr.extents]
    omega

theorem image_length : r.image.length = 4096 := by
  obtain ⟨hheader, hoffsets, hbins, hfolds, hextents⟩ := image_parts_length hr
  rw [image_eq]
  simp only [List.length_append, hheader, hoffsets, hbins, hfolds, hextents]

theorem image_parts (h : holdsAt src 0 r.image) : holdsAt src 0 r.header ∧ holdsAt src 64 (r.offsets.flatMap offsetBytes) ∧
    holdsAt src 96 (r.bins.toList.flatMap BinAttr.bytes) ∧ holdsAt src 352 (r.folds.flatMap FoldRange.bytes) ∧
    holdsAt src 1024 (r.extents.flatMap extentBytes) := by
  obtain ⟨hheader, hoffsets, hbins, hfolds, -⟩ := image_parts_length hr
  rw [image_eq] at h
  simp only [holdsAt_append, List.length_append, hheader, hoffsets, hbins, hfolds, Nat.zero_add, Nat.reduceAdd] at h
  obtain ⟨⟨⟨⟨hheader, hoffsets⟩, hbins⟩, hfolds⟩, hextents⟩ := h
  exact ⟨holdsAt_padTo hheader, holdsAt_padTo hoffsets, hbins, holdsAt_padTo hfolds, holdsAt_padTo hextents⟩

end

/-! ### Fields read back -/

theorem get8_ofNat {v : Nat} (h : src o = BitVec.ofNat 8 v) (hv : v < 2 ^ 8) : get8 src o = v := by
  rw [get8, h, BitVec.toNat_ofNat, Nat.mod_eq_of_lt hv]

theorem map_range_eq {α : Type} {f : Nat → α} {xs : List α} {n : Nat} (hn : n = xs.length)
    (h : ∀ (i : Nat) (x : α), xs[i]? = some x → f i = x) : (List.range n).map f = xs := by
  subst hn
  refine List.ext_getElem (by simp) fun i hi hi' => ?_
  rw [List.getElem_map, List.getElem_range]
  exact h i _ (List.getElem?_eq_getElem hi')

theorem offset_back {d : Int × Int} (h : holdsAt src o (offsetBytes d)) (h₁ : (BitVec.ofInt 7 d.1).toInt = d.1)
    (h₂ : (BitVec.ofInt 7 d.2).toInt = d.2) : (offsetAt src o, offsetAt src (o + 1)) = d := by
  simp only [offsetBytes, holdsAt_cons] at h
  have back {o : Nat} {x : BitVec 7} (hx : src o = BitVec.ofNat 8 x.toNat) : offsetAt src o = x.toInt := by
    rw [offsetAt, get8_ofNat hx (by omega), BitVec.ofNat_toNat, BitVec.setWidth_eq]
  rw [back h.1, back h.2.1, h₁, h₂]

theorem bin_back {a : BinAttr} (h : holdsAt src o a.bytes) (hrank : a.rank < 64) (hlimit : a.limit ≤ 10000) :
    (⟨bit8 src o 7, get8 src o % 64, clampBp (get16 src (o + 2))⟩ : BinAttr) = a := by
  have happ : a.bytes = [BitVec.ofNat 8 (a.rank + 128 * a.pass.toNat), 0] ++ leBytes 2 a.limit := rfl
  rw [happ, holdsAt_append, holdsAt_cons] at h
  obtain ⟨⟨hfirst, -⟩, (hlow : holdsAt src (o + 2) (leBytes 2 a.limit))⟩ := h
  have hpass : a.pass.toNat < 2 := Bool.toNat_lt a.pass
  have hbit : bit8 src o 7 = a.pass := by
    rw [bit8, hfirst, BitVec.getLsbD_ofNat, Nat.testBit_eq_decide_div_mod_eq]
    have hhigh : (a.rank + 128 * a.pass.toNat) / 2 ^ 7 % 2 = a.pass.toNat := by omega
    rw [hhigh]
    cases a.pass <;> rfl
  have hmod : get8 src o % 64 = a.rank := by
    rw [get8_ofNat hfirst (by omega)]
    omega
  have hclamp : clampBp (get16 src (o + 2)) = a.limit := by
    rw [get16_of hlow, Nat.mod_eq_of_lt (by omega), clampBp, Nat.min_eq_left hlimit]
  rw [hbit, hmod, hclamp]

theorem fold_back {f : FoldRange} (h : holdsAt src o f.bytes) (hlo : f.lo < 2 ^ 16) (hhi : f.hi < 2 ^ 16) :
    (⟨get16 src o, get16 src (o + 2), Fin.ofNat 64 (get8 src (o + 4))⟩ : FoldRange) = f := by
  simp only [FoldRange.bytes, holdsAt_append, holdsAt_cons, List.length_append, leBytes_length] at h
  obtain ⟨⟨hlow, hhigh⟩, hcode, -⟩ := h
  have hcodeBack : Fin.ofNat 64 (get8 src (o + 4)) = f.code := by
    rw [get8_ofNat hcode (by have := f.code.isLt; omega)]
    exact Fin.ofNat_val_eq_self f.code
  rw [get16_of hlow, get16_of hhigh, Nat.mod_eq_of_lt hlo, Nat.mod_eq_of_lt hhi, hcodeBack]

theorem extent_back {x : Option (Nat × Nat)} {y : Nat} (h : holdsAt src (1024 + 4 * y) (extentBytes x))
    (hx : ∀ first last, x = some (first, last) → first < 0xFFFF ∧ last < 2 ^ 16) : extentAt src y = x := by
  have hnext : 1024 + 4 * y + 2 = 1026 + 4 * y := by omega
  cases x with
  | none =>
    rw [extentBytes, holdsAt_append] at h
    exact if_pos (get16_of h.1)
  | some p =>
    obtain ⟨first, last⟩ := p
    obtain ⟨hfirst, hlast⟩ := hx first last rfl
    rw [extentBytes, holdsAt_append, leBytes_length, hnext] at h
    rw [extentAt, get16_of h.1, get16_of h.2, Nat.mod_eq_of_lt (by omega), Nat.mod_eq_of_lt hlast, if_neg (by omega)]

theorem mask_back {m : Mask} (h : src o = maskByte m) : maskOf src o = m := by
  have hbit {j : Nat} (hj : j < 8) : bit8 src o j =
      [m.yieldFloor, m.binLimit, m.siteRun, m.siteGap, m.idle, m.trendLow, m.lotFloor].getD j false := by
    rw [bit8, h, maskByte, flagByte_bit _ hj]
  unfold maskOf
  rw [hbit (by omega), hbit (by omega), hbit (by omega), hbit (by omega), hbit (by omega), hbit (by omega), hbit (by omega)]
  rfl

theorem policy_back (p : Policy) : Policy.ofCode p.code = p := by cases p <;> rfl

theorem policy_code_lt (p : Policy) : p.code < 3 := by cases p <;> decide

theorem clamp_back {v w : Nat} (h : v = w % 2 ^ 16) (hw : w ≤ 10000) : clampBp v = w := by
  rw [h, Nat.mod_eq_of_lt (by omega), clampBp, Nat.min_eq_left hw]

end

section

variable {src : Nat → Byte} {r : Recipe} (hr : r.Fits)

include hr

/-- The flag, code and count bytes of the image, read back. -/
theorem header_bytes_back (h : holdsAt src 0 r.header) : Policy.ofCode (get8 src 1) = r.policy ∧ get8 src 2 = r.siteCount ∧
    get8 src 3 = r.folds.length ∧ Fin.ofNat 64 (get8 src 8) = r.stray ∧ bit8 src 9 0 = r.autoclose ∧ bit8 src 9 1 = r.guarded ∧
    min 8 (max 1 (get8 src 10)) = r.weight ∧ max 1 (get8 src 11) = r.warmup ∧ get8 src 20 = r.runLimit := by
  obtain ⟨⟨hpolicy, hsites, hfolds, -, -⟩, ⟨hstray, hflags, hweight, hwarmup⟩, ⟨-, -, -, -, hrun⟩, -, -⟩ := header_fields h
  have hcode := policy_code_lt r.policy
  have hsiteCount := hr.sites
  have hfoldCount := hr.folds
  have hstrayCode := r.stray.isLt
  obtain ⟨hweightLow, hweightHigh⟩ := hr.weight
  obtain ⟨hwarmupLow, hwarmupHigh⟩ := hr.warmup
  have hflag {j : Nat} (hj : j < 8) : bit8 src 9 j = [r.autoclose, r.guarded].getD j false := by
    rw [bit8, hflags, flagByte_bit _ hj]
  rw [get8_ofNat hpolicy (by omega), get8_ofNat hsites (by omega), get8_ofNat hfolds (by omega),
    get8_ofNat hstray (by omega), get8_ofNat hweight (by omega), get8_ofNat hwarmup hwarmupHigh,
    get8_ofNat hrun hr.runLimit, hflag (by omega), hflag (by omega)]
  exact ⟨policy_back _, rfl, rfl, Fin.ofNat_val_eq_self r.stray, rfl, rfl, by omega, by omega, rfl⟩

/-- The halfwords and the trend word of the image, read back. -/
theorem header_words_back (h : holdsAt src 0 r.header) : get16 src 4 = r.cols ∧ get16 src 6 = r.rows ∧
    max 1 (get16 src 12) = r.minSample ∧ get16 src 26 = r.idleLimit ∧ min (get32 src 36 : Int) 2560000 = r.trendE ∧
    get16 src 40 = r.trendCount := by
  obtain ⟨⟨-, -, -, hcols, hrows⟩, -, ⟨hmin, -, -, -, -⟩, ⟨-, -, hidle, -, -⟩, -, -, -, htrend, hcount⟩ := header_fields h
  have hrowCount := hr.rows
  obtain ⟨hminLow, hminHigh⟩ := hr.minSample
  obtain ⟨htrendLow, htrendHigh⟩ := hr.trendE
  have hword : (get32 src 36 : Int) = r.trendE := by
    rw [htrend, BitVec.toNat_ofInt]
    omega
  rw [hcols, hrows, hmin, hidle, hcount, hword, Nat.mod_eq_of_lt hr.cols, Nat.mod_eq_of_lt hminHigh,
    Nat.mod_eq_of_lt hr.idleLimit, Nat.mod_eq_of_lt hr.trendCount]
  exact ⟨rfl, Nat.mod_eq_of_lt (by omega), by omega, rfl, min_eq_left htrendHigh, rfl⟩

theorem thresholds_back (h : holdsAt src 0 r.header) : clampBp (get16 src 14) = r.floor ∧ clampBp (get16 src 16) = r.floorHyst ∧
    clampBp (get16 src 18) = r.binHyst ∧ clampBp (get16 src 22) = r.gapLimit ∧ clampBp (get16 src 24) = r.gapHyst ∧
    clampBp (get16 src 28) = r.margin ∧ clampBp (get16 src 30) = r.lotFloor := by
  obtain ⟨-, -, ⟨-, hfloor, hfloorHyst, hbinHyst, -⟩, ⟨hgap, hgapHyst, -, hmargin, hlot⟩, -⟩ := header_fields h
  obtain ⟨hfloorMax, hfloorHystMax, hbinHystMax, hgapMax, hgapHystMax, hmarginMax, hlotMax⟩ := hr.thresholds
  exact ⟨clamp_back hfloor hfloorMax, clamp_back hfloorHyst hfloorHystMax, clamp_back hbinHyst hbinHystMax,
    clamp_back hgap hgapMax, clamp_back hgapHyst hgapHystMax, clamp_back hmargin hmarginMax, clamp_back hlot hlotMax⟩

theorem offsets_back (h : holdsAt src 64 (r.offsets.flatMap offsetBytes)) :
    (List.range r.siteCount).map (fun i => (offsetAt src (64 + 2 * i), offsetAt src (65 + 2 * i))) = r.offsets := by
  refine map_range_eq hr.offsets.symm fun i d hd => ?_
  have hnext : 64 + 2 * i + 1 = 65 + 2 * i := by omega
  obtain ⟨hx, hy⟩ := hr.offset d (List.mem_of_getElem? hd)
  rw [← hnext]
  exact offset_back (holdsAt_flatMap offsetBytes_length h i d hd) hx hy

theorem bins_back (h : holdsAt src 96 (r.bins.toList.flatMap BinAttr.bytes)) : (Vector.ofFn fun b : BinCode =>
    (⟨bit8 src (96 + 4 * b.val) 7, get8 src (96 + 4 * b.val) % 64, clampBp (get16 src (98 + 4 * b.val))⟩ : BinAttr)) =
      r.bins := by
  refine Vector.ext fun i hi => ?_
  have hnext : 96 + 4 * i + 2 = 98 + 4 * i := by omega
  obtain ⟨hrank, hlimit⟩ := hr.bin ⟨i, hi⟩
  rw [Vector.getElem_ofFn, ← hnext]
  exact bin_back (holdsAt_flatMap binAttr_length h i r.bins[i] (toList_get r.bins ⟨i, hi⟩)) hrank hlimit

theorem folds_back (h : holdsAt src 352 (r.folds.flatMap FoldRange.bytes)) : (List.range r.folds.length).map (fun i =>
    (⟨get16 src (352 + 8 * i), get16 src (354 + 8 * i), Fin.ofNat 64 (get8 src (356 + 8 * i))⟩ : FoldRange)) = r.folds := by
  refine map_range_eq rfl fun i f hf => ?_
  have hhighAt : 352 + 8 * i + 2 = 354 + 8 * i := by omega
  have hcodeAt : 352 + 8 * i + 4 = 356 + 8 * i := by omega
  obtain ⟨hlo, hhi⟩ := hr.fold f (List.mem_of_getElem? hf)
  rw [← hhighAt, ← hcodeAt]
  exact fold_back (holdsAt_flatMap foldRange_length h i f hf) hlo hhi

theorem extents_back (h : holdsAt src 1024 (r.extents.flatMap extentBytes)) :
    (List.range r.rows).map (extentAt src) = r.extents :=
  map_range_eq hr.extents.symm fun y x hx => extent_back (holdsAt_flatMap extentBytes_length h y x hx) fun first last hfull =>
    hr.extent first last (hfull ▸ List.mem_of_getElem? hx)

/-- The image of a copy in range gives the copy back. -/
theorem image_back (h : holdsAt src 0 r.image) : recipeOf src = r := by
  obtain ⟨hheader, hoffsets, hbins, hfolds, hextents⟩ := image_parts hr h
  obtain ⟨hpolicy, hsites, hfoldCount, hstray, hautoclose, hguarded, hweight, hwarmup, hrun⟩ := header_bytes_back hr hheader
  obtain ⟨hcols, hrows, hmin, hidle, htrend, hcount⟩ := header_words_back hr hheader
  obtain ⟨hfloor, hfloorHyst, hbinHyst, hgap, hgapHyst, hmargin, hlot⟩ := thresholds_back hr hheader
  obtain ⟨-, -, -, -, hassert, hrelease, hhold, -, -⟩ := header_fields hheader
  rw [recipeOf, hcols, hrows, extents_back hr hextents, hfoldCount, folds_back hr hfolds, hstray, bins_back hr hbins, hpolicy,
    hsites, offsets_back hr hoffsets, hmin, hfloor, hfloorHyst, hbinHyst, hrun, hgap, hgapHyst, hidle, hautoclose, hguarded,
    hweight, hwarmup, hmargin, hlot, mask_back hassert, mask_back hrelease, mask_back hhold, htrend, hcount]
  exact congrArg (fun valid => { r with valid := valid }) hr.valid.symm

end

/-! ### What a validated copy holds -/

section

variable {src : Nat → Byte}

theorem get16_lt (src : Nat → Byte) (o : Nat) : get16 src o < 2 ^ 16 := by
  have hlow := (src o).isLt
  have hhigh := (src (o + 1)).isLt
  unfold get16 get8
  omega

theorem get8_lt (src : Nat → Byte) (o : Nat) : get8 src o < 2 ^ 8 := (src o).isLt

theorem clampBp_le (n : Nat) : clampBp n ≤ 10000 := Nat.min_le_right _ _

theorem extentAt_some {y first last : Nat} (h : extentAt src y = some (first, last)) :
    get16 src (1024 + 4 * y) ≠ 0xFFFF ∧ first = get16 src (1024 + 4 * y) ∧ last = get16 src (1026 + 4 * y) := by
  unfold extentAt at h
  split at h
  · exact absurd h nofun
  · next hfull =>
    cases h
    exact ⟨hfull, rfl, rfl⟩

theorem offsetAt_fits (o : Nat) : (BitVec.ofInt 7 (offsetAt src o)).toInt = offsetAt src o := by
  rw [offsetAt, BitVec.ofInt_toInt]

theorem offsetAt_eq (o : Nat) : offsetAt src o = ((src o).extractLsb' 0 7).toInt := by
  have hlow : BitVec.ofNat 7 (get8 src o) = (src o).extractLsb' 0 7 :=
    BitVec.eq_of_toNat_eq (by rw [BitVec.toNat_ofNat, BitVec.extractLsb'_toNat, Nat.shiftRight_zero]; rfl)
  rw [offsetAt, hlow]

theorem recipeOf_bin (b : BinCode) : (recipeOf src).bins[b] =
    ⟨bit8 src (96 + 4 * b.val) 7, get8 src (96 + 4 * b.val) % 64, clampBp (get16 src (98 + 4 * b.val))⟩ :=
  Vector.getElem_ofFn _

theorem recipeOf_fits (h : refusalOf src = none) : (recipeOf src).Fits := by
  obtain ⟨⟨-, -, -, hrows⟩, -, ⟨hfolds, -⟩, -, ⟨-, hsites⟩, -⟩ := passed_of_accepted h
  refine {
    valid := rfl
    cols := get16_lt src 4
    rows := hrows
    extents := by rw [recipeOf, List.length_map, List.length_range]
    extent := fun first last hmem => ?_
    folds := by rw [recipeOf, List.length_map, List.length_range]; exact hfolds
    fold := fun f hmem => ?_
    bin := fun b => ?_
    sites := hsites
    offsets := by rw [recipeOf, List.length_map, List.length_range]
    offset := fun d hmem => ?_
    minSample := ⟨le_max_left _ _, max_lt (by omega) (get16_lt src 12)⟩
    thresholds := ⟨clampBp_le _, clampBp_le _, clampBp_le _, clampBp_le _, clampBp_le _, clampBp_le _, clampBp_le _⟩
    runLimit := get8_lt src 20
    idleLimit := get16_lt src 26
    weight := ⟨le_min (by omega) (le_max_left _ _), min_le_left _ _⟩
    warmup := ⟨le_max_left _ _, max_lt (by omega) (get8_lt src 11)⟩
    trendE := ⟨le_min (by omega) (by omega), min_le_right _ _⟩
    trendCount := get16_lt src 40 }
  · obtain ⟨y, -, hy⟩ := List.mem_map.1 hmem
    obtain ⟨hfull, hfirst, hlast⟩ := extentAt_some hy
    have hfirstLt := get16_lt src (1024 + 4 * y)
    rw [hfirst, hlast]
    exact ⟨by omega, get16_lt _ _⟩
  · obtain ⟨i, -, hi⟩ := List.mem_map.1 hmem
    rw [← hi]
    exact ⟨get16_lt _ _, get16_lt _ _⟩
  · rw [recipeOf_bin]
    exact ⟨Nat.mod_lt _ (by omega), clampBp_le _⟩
  · obtain ⟨i, -, hi⟩ := List.mem_map.1 hmem
    rw [← hi]
    exact ⟨offsetAt_fits _, offsetAt_fits _⟩

theorem getElem?_map_range {α : Type} {f : Nat → α} {n i : Nat} {x : α} (h : ((List.range n).map f)[i]? = some x) :
    i < n ∧ f i = x := by
  rw [List.getElem?_map, Option.map_eq_some_iff] at h
  obtain ⟨j, hj, hx⟩ := h
  obtain ⟨hi, hij⟩ := List.getElem?_eq_some_iff.1 hj
  rw [List.length_range] at hi
  rw [List.getElem_range] at hij
  exact ⟨hi, hij ▸ hx⟩

theorem recipeOf_extent (h : extentsFit src) {y first last : Nat}
    (hy : (recipeOf src).extents[y]? = some (some (first, last))) : first ≤ last ∧ last < (recipeOf src).cols := by
  obtain ⟨hrow, hextent⟩ := getElem?_map_range hy
  obtain ⟨hfull, hfirst, hlast⟩ := extentAt_some hextent
  rw [hfirst, hlast]
  exact (h y hrow).resolve_left hfull

theorem recipeOf_fold (horder : foldsOrdered src) (hcodes : codesFit src) {i : Nat} {f : FoldRange}
    (hi : (recipeOf src).folds[i]? = some f) : f.lo = get16 src (352 + 8 * i) ∧ f.hi = get16 src (354 + 8 * i) ∧
      f.lo ≤ f.hi ∧ f.code.val = get8 src (356 + 8 * i) := by
  obtain ⟨hlt, hf⟩ := getElem?_map_range hi
  rw [← hf]
  exact ⟨rfl, rfl, horder i hlt, Nat.mod_eq_of_lt (Nat.lt_succ_of_le (hcodes.1 i hlt))⟩

theorem policy_code {n : Nat} (h : n ≤ 2) : (Policy.ofCode n).code = n := by
  interval_cases n <;> rfl

end

/-- Settles O44. -/
theorem validRecipeInRange : Obligations.ValidRecipeInRange := by
  refine ⟨fun src => ⟨refused_notValid, refused_badGeometry, refused_badExtent, refused_badFold, refused_badCode,
    refused_badSites, refused_badPolicy, not_refused⟩, fun src h => ?_⟩
  intro r byte half bp mask
  obtain ⟨⟨hcolsLow, hcolsHigh, hrowsLow, hrowsHigh⟩, hextents, ⟨hfoldCount, horder⟩, hcodes, ⟨hsitesLow, hsitesHigh⟩, hpolicy⟩ :=
    passed_of_accepted h
  have hr := recipeOf_fits h
  have hfolds : r.folds.length = byte 3 := (List.length_map _).trans List.length_range
  have hoffsets : r.offsets = (List.range r.siteCount).map (fun i =>
      (((src (64 + 2 * i)).extractLsb' 0 7).toInt, ((src (65 + 2 * i)).extractLsb' 0 7).toInt)) := by
    refine List.map_congr_left fun i _ => ?_
    rw [offsetAt_eq, offsetAt_eq]
  have htrend : r.trendE = (min (get32 src 36) 2560000 : Nat) := by
    rw [Nat.cast_min]
    rfl
  exact ⟨rfl, rfl, rfl, hcolsLow, hcolsHigh, hrowsLow, hrowsHigh, rfl, fun y first last => recipeOf_extent hextents, hfolds,
    hfolds.trans_le hfoldCount, fun i f => recipeOf_fold horder hcodes, Nat.mod_eq_of_lt (Nat.lt_succ_of_le hcodes.2),
    policy_code hpolicy, rfl, hsitesLow, hsitesHigh, hoffsets, recipeOf_bin, rfl, rfl, rfl, rfl, rfl, rfl, rfl, rfl, rfl, rfl,
    rfl, rfl, rfl, rfl, rfl, rfl, rfl, htrend, rfl, image_length hr, image_back hr (holdsAt_self _)⟩

end Sys2Proof.Machine
end
